-- ==== Sys2Proof/Word.lean ====
section
/-! DEFINITION. The widths of the NM3208's fields and the names of its numbered resources (00_scope.md, Conventions; 10 R163). -/

namespace Sys2Proof

/-- One byte of a frame; also an 8-bit field such as a notice number, a credit or an event count. -/
abbrev Byte := BitVec 8

/-- A 16-bit field: a duration in ms, a class set, the frame-error count. -/
abbrev Half := BitVec 16

/-- A reading of the 32-bit microsecond timestamp counter (R1). The counter wraps. -/
abbrev Time := BitVec 32

/-- A 32-bit journal sequence number (R102). -/
abbrev Seq := BitVec 32

/-- Source S0 to S31. -/
abbrev SourceNo := Fin 32

/-- Class C0 to C15; the number is the priority, C0 highest. -/
abbrev ClassNo := Fin 16

/-- Grant line G0 to G7. -/
abbrev LineNo := Fin 8

/-- Profile slot 0 to 3. -/
abbrev SlotNo := Fin 4

end Sys2Proof
end

