-- ==== Sys2Proof/Syntax.lean ====
section
/-! DEFINITION. The commands of the NM3208: one constructor for each row of spec/opcode_table.json. -/

namespace Sys2Proof

/-- The level of a source line (R3). -/
inductive Level where
  | low
  | high
  deriving DecidableEq, Repr

/-- The input pins whose raw level the board sets: the 32 source lines (R3) and the two rate straps (R115). -/
inductive LevelPin where
  | source (i : SourceNo)
  | rateB
  | rateA
  deriving DecidableEq, Repr

/-- How a frame fails on the wire (R118), apart from the expiry of the inter-byte timer, which is a row of its own. -/
inductive WireFailure where
  /-- A LEN byte greater than 60. -/
  | lenOver60
  /-- A character whose stop bit reads low (R116). -/
  | characterError
  /-- A CHECK that differs from the computed value (R117). -/
  | badCheck
  deriving DecidableEq, Repr

/-- The rows of the table. An order row is the arrival of a whole frame of that kind that passed its check (R117, R121): it
carries the frame's TAG and its PAYLOAD bytes as received, laid out by R166. -/
inductive Instr where
  /-- STATUS (R132). Payload: none. -/
  | status (tag : Byte) (payload : List Byte)
  /-- ECHO (R133). Payload: 0 to 54 bytes to echo. -/
  | echo (tag : Byte) (payload : List Byte)
  /-- OPEN (R136). Payload: credit, answer timeout, retry limit, nesting mode. -/
  | openSession (tag : Byte) (payload : List Byte)
  /-- CLOSE (R138). Payload: none. -/
  | closeSession (tag : Byte) (payload : List Byte)
  /-- CLAIM (R73). Payload: notice number. -/
  | claim (tag : Byte) (payload : List Byte)
  /-- RELEASE (R75, R76). Payload: notice number. -/
  | release (tag : Byte) (payload : List Byte)
  /-- RETURN (R77). Payload: notice number, hold (2). -/
  | returnNotice (tag : Byte) (payload : List Byte)
  /-- SET-STEER (R20). Payload: source, mode, class, qualification, journal option. -/
  | setSteer (tag : Byte) (payload : List Byte)
  /-- GET-STEER (R30). Payload: source. -/
  | getSteer (tag : Byte) (payload : List Byte)
  /-- SET-CLASS (R53). Payload: class, mask, critical, deadline (2), service limit (2). -/
  | setClass (tag : Byte) (payload : List Byte)
  /-- GET-CLASS (R56). Payload: class. -/
  | getClass (tag : Byte) (payload : List Byte)
  /-- MASK with action SET (R44). Payload: class set (2), action. -/
  | maskSet (tag : Byte) (payload : List Byte)
  /-- MASK with action CLEAR (R44). Payload: class set (2), action. -/
  | maskClear (tag : Byte) (payload : List Byte)
  /-- CLEAR-ALARM (R51). Payload: none. -/
  | clearAlarm (tag : Byte) (payload : List Byte)
  /-- PAIR-GRANT (R89). Payload: line, source, polarity, guard, end-on-withdraw. -/
  | pairGrant (tag : Byte) (payload : List Byte)
  /-- GET-LINES (R16). Payload: none. -/
  | getLines (tag : Byte) (payload : List Byte)
  /-- FORCE with action PULSE (R14, R15). Payload: source, action. -/
  | forcePulse (tag : Byte) (payload : List Byte)
  /-- FORCE with action ON (R14, R15). Payload: source, action. -/
  | forceOn (tag : Byte) (payload : List Byte)
  /-- FORCE with action OFF (R14, R15). Payload: source, action. -/
  | forceOff (tag : Byte) (payload : List Byte)
  /-- READ-JOURNAL (R107). Payload: position (4). -/
  | readJournal (tag : Byte) (payload : List Byte)
  /-- TRIM-JOURNAL (R109). Payload: limit (4). -/
  | trimJournal (tag : Byte) (payload : List Byte)
  /-- SAVE-PROFILE (R152). Payload: slot. -/
  | saveProfile (tag : Byte) (payload : List Byte)
  /-- LOAD-PROFILE (R155). Payload: slot. -/
  | loadProfile (tag : Byte) (payload : List Byte)
  /-- SET-BOOT (R154). Payload: designation. -/
  | setBoot (tag : Byte) (payload : List Byte)
  /-- GET-PROFILES (R157). Payload: none. -/
  | getProfiles (tag : Byte) (payload : List Byte)
  /-- RESTART (R159). Payload: none. -/
  | restart (tag : Byte) (payload : List Byte)
  /-- A good frame whose kind is not an order code (R121 step 2, R125). -/
  | unknownKind (kind : Byte) (tag : Byte) (payload : List Byte)
  /-- A frame fails on the wire (R118). -/
  | frameFailure (cause : WireFailure)
  /-- The inter-byte timer expires (R119). -/
  | interByteGapExpiry
  /-- The raw level of an input pin becomes `level`: of a source line (R4), or of a rate strap, for whose change the table has no row
  of its own (R115; log 3). -/
  | rawLevelChange (pin : LevelPin) (level : Level)
  /-- A source's qualification timer expires (R4). -/
  | qualificationTimerExpiry (source : SourceNo)
  /-- The Class Engine takes the oldest untaken report of a source (R32). -/
  | contributionReport (source : SourceNo)
  /-- A class's deadline timer expires (R47). -/
  | deadlineExpiry (cls : ClassNo)
  /-- A class's hold timer expires (R40). -/
  | holdExpiry (cls : ClassNo)
  /-- A notice's answer timer expires (R70). -/
  | answerTimerExpiry (notice : Byte)
  /-- A notice's service timer expires (R79). -/
  | serviceTimerExpiry (notice : Byte)
  /-- A grant line's guard timer expires (R93). -/
  | guardExpiry (line : LineNo)
  /-- The Grant Line Unit takes the oldest request handed to it, a request to grant (R91). -/
  | grantRequest
  /-- The Grant Line Unit takes the oldest request handed to it, a request to end an entry's grants (R92). -/
  | grantEndRequest
  /-- The Grant Line Unit takes the notice of a source's withdrawal (R94). -/
  | endOnWithdraw (source : SourceNo)
  /-- The Event Journal takes the oldest record handed to it (R104). -/
  | journalArrival
  /-- The Session Unit takes a retry-exhaustion report (R139). -/
  | sessionLost
  /-- The frame being sent has been sent whole (R128). -/
  | transmissionCompletion
  /-- The write of a save completes (R153). -/
  | profileSaveCompletion
  /-- The write of a boot designation completes (R154). -/
  | setBootCompletion
  /-- The supply falls below its operating range or is first applied (R158). -/
  | powerOn
  /-- The supply has been within its range for 10 ms continuously (R158). -/
  | supplyInRange
  /-- RESET has been low for 1 µs (R158). -/
  | pinReset
  /-- RESET returns high (R158). -/
  | resetRelease
  /-- The store read period ends and the part leaves reset (R160). -/
  | startUp
  /-- A character with a good stop bit has been received on RXD (R116, R117). -/
  | byteReceived (byte : Byte)
  deriving DecidableEq, Repr

end Sys2Proof
end

