-- ==== Sys2Proof/WellFormed.lean ====
section
/-! DEFINITION. Which commands can come: what the frame envelope and the split of one order into several rows demand. -/

namespace Sys2Proof

/-- LEN is 0 to 60 (R164), so no frame carries a longer payload. -/
def payloadFits (payload : List Byte) : Bool := decide (payload.length ≤ 60)

/-- The kind codes 0x01 to 0x17 name orders (R121, R164). -/
def isOrderCode (kind : Byte) : Bool := decide (1 ≤ kind.toNat) && decide (kind.toNat ≤ 0x17)

/-- The action byte of a MASK payload is not the one that makes it the other MASK row (R163, R166). A payload of a wrong length
has no action byte, and one whose action is out of range belongs to either row. -/
def maskActionIsNot (other : Byte) (payload : List Byte) : Bool :=
  match payload with
  | [_, _, action] => action != other
  | _ => true

/-- The action byte of a FORCE payload is none of those that make it another FORCE row (R163, R166). -/
def forceActionIsNot (other₁ other₂ : Byte) (payload : List Byte) : Bool :=
  match payload with
  | [_, action] => action != other₁ && action != other₂
  | _ => true

/-- A command that can come to the part: its payload fits a frame, an UNKNOWN_KIND frame has no order code, and a MASK or FORCE
row does not carry the action of another row. -/
def Instr.wf : Instr → Bool
  | .status _ p | .echo _ p | .openSession _ p | .closeSession _ p | .claim _ p | .release _ p | .returnNotice _ p
  | .setSteer _ p | .getSteer _ p | .setClass _ p | .getClass _ p | .clearAlarm _ p | .pairGrant _ p | .getLines _ p
  | .readJournal _ p | .trimJournal _ p | .saveProfile _ p | .loadProfile _ p | .setBoot _ p | .getProfiles _ p
  | .restart _ p => payloadFits p
  | .maskSet _ p => payloadFits p && maskActionIsNot 2 p
  | .maskClear _ p => payloadFits p && maskActionIsNot 1 p
  | .forcePulse _ p => payloadFits p && forceActionIsNot 2 3 p
  | .forceOn _ p => payloadFits p && forceActionIsNot 1 3 p
  | .forceOff _ p => payloadFits p && forceActionIsNot 1 2 p
  | .unknownKind k _ p => payloadFits p && !isOrderCode k
  | .frameFailure _ => true
  | .interByteGapExpiry => true
  | .rawLevelChange _ _ => true
  | .qualificationTimerExpiry _ => true
  | .contributionReport _ => true
  | .deadlineExpiry _ => true
  | .holdExpiry _ => true
  | .answerTimerExpiry _ => true
  | .serviceTimerExpiry _ => true
  | .guardExpiry _ => true
  | .grantRequest => true
  | .grantEndRequest => true
  | .endOnWithdraw _ => true
  | .journalArrival => true
  | .sessionLost => true
  | .transmissionCompletion => true
  | .profileSaveCompletion => true
  | .setBootCompletion => true
  | .powerOn => true
  | .supplyInRange => true
  | .pinReset => true
  | .resetRelease => true
  | .startUp => true
  | .byteReceived _ => true

end Sys2Proof
end

