-- ==== Sys2Proof/Decode.lean ====
section
/-! DEFINITION. The command that a word spells by the bits of spec/opcode_table.json. -/

namespace Sys2Proof

/-- The table of this block gives no row a word: its "fields" are empty and it has no "fixed" (spec/INDEX.md: n_rows_with_fixed 0,
n_rows_with_fields 0), so no word spells a command. Orders are spelt by frames, which `Machine.execByteReceived` takes. -/
def decodeTableWord (_nbits _w : Nat) : Option Instr := none

end Sys2Proof
end

