-- ==== Sys2Proof/Config.lean ====
section
/-! DEFINITION. The free values: what the spec bounds or leaves to either order, and no proof may know. -/

namespace Sys2Proof.Config

/-- Free: how far beyond the shortest save of 25 ms the n-th open value lies, before it is brought within the bound of 40 ms
(R152). -/
opaque saveTime : Nat → Nat

/-- Free: the same for a boot designation write of 4 to 8 ms (R154). -/
opaque designationTime : Nat → Nat

/-- Free: whether, of an answer and a NOTICE frame that join together while the transmitter is idle, the NOTICE frame joins first
(R127: "Either joining may be taken first"). -/
opaque noticeJoinsFirst : Nat → Bool

end Sys2Proof.Config
end

