-- ==== Sys2Proof/Machine/State.lean ====
section
/-! DEFINITION. Everything the spec gives the NM3208 to hold, as plain data, and its value right after a POWER-ON reset. -/

namespace Sys2Proof.Machine

/-! ### Steering Table and Source Line Unit (01, 02) -/

/-- The modes of a source (R6, R17). -/
inductive SourceMode where
  | off
  | rise
  | fall
  | both
  | levelHigh
  | levelLow
  deriving DecidableEq, Repr

/-- One steering entry (R17). `cls = none` is class NONE. -/
structure SteerEntry where
  mode : SourceMode
  cls : Option ClassNo
  qualification : Fin 16
  journal : Bool
  deriving DecidableEq, Repr

/-- A running qualification timer (R3): the level it moves toward and the reading at which it expires. -/
structure QualTimer where
  target : Level
  expiry : Time
  deriving DecidableEq, Repr

/-- The dynamic record of one source (R3). -/
@[ext] structure SourceRecord where
  raw : Level
  qualified : Level
  timer : Option QualTimer
  latch : Bool
  count : Byte
  forced : Bool
  live : Bool
  deriving DecidableEq, Repr

/-! ### Class Engine (03) -/

/-- The six class states (section 3.2). -/
inductive ClassState where
  | idle
  | pending
  | notified
  | inService
  | expired
  | held
  deriving DecidableEq, Repr

/-- The four settings of a class (R31). -/
structure ClassSettings where
  masked : Bool
  critical : Bool
  deadline : Half
  limit : Half
  deriving DecidableEq, Repr

/-- One class record (R31). A timer is its expiry reading, or none while it is stopped. -/
@[ext] structure ClassRecord where
  settings : ClassSettings
  state : ClassState
  late : Bool
  firstPending : Option Time
  deadlineTimer : Option Time
  holdTimer : Option Time
  reported : List SourceNo
  deriving DecidableEq, Repr

/-! ### Notice Dispatcher (04) -/

/-- The three entry states (R59). -/
inductive EntryState where
  | notified
  | inService
  | expired
  deriving DecidableEq, Repr

/-- One item of a claim list (R74): a source and its event count at the claim. -/
structure ClaimItem where
  source : SourceNo
  count : Byte
  deriving DecidableEq, Repr

/-- One notice-table entry (R59). -/
structure NoticeEntry where
  number : Byte
  cls : ClassNo
  state : EntryState
  sent : Nat
  sendList : List SourceNo
  firstPending : Time
  critical : Bool
  claimList : Option (List ClaimItem)
  claimTime : Option Time
  answerTimer : Option Time
  serviceTimer : Option Time
  deriving DecidableEq, Repr

/-- The frames of the notice send list (R66, R67, R80). -/
inductive NoticeFrameKind where
  | first
  | again
  | overdue
  deriving DecidableEq, Repr

/-- A frame on the notice send list: the entry and class it belongs to, and its payload, fixed as it joins (R67, R80). -/
structure NoticeFrame where
  notice : Byte
  cls : ClassNo
  kind : NoticeFrameKind
  payload : List Byte
  deriving DecidableEq, Repr

/-- The Notice Dispatcher: the table, the next-number counter and the notice send list (R59). -/
@[ext] structure Dispatcher where
  entries : List NoticeEntry
  nextNumber : Byte
  sendList : List NoticeFrame
  deriving DecidableEq, Repr

/-! ### Grant Line Unit (05) -/

/-- The polarity of a grant line (R86). -/
inductive Polarity where
  | activeHigh
  | activeLow
  deriving DecidableEq, Repr

/-- The pairing of a grant line (R86). -/
structure Pairing where
  source : Option SourceNo
  polarity : Polarity
  guardTime : Byte
  endOnWithdraw : Bool
  deriving DecidableEq, Repr

/-- The four states of a grant line (section 5.3). -/
inductive LineState where
  | unpaired
  | ready
  | granted
  | guarding
  deriving DecidableEq, Repr

/-- One grant line record (R86). -/
@[ext] structure LineRecord where
  pairing : Pairing
  state : LineState
  waiting : Bool
  notice : Option Byte
  guardTimer : Option Time
  deriving DecidableEq, Repr

/-! ### Event Journal (06) -/

/-- The twenty record kinds (R100). -/
inductive RecordKind where
  | assert
  | assertForced
  | withdraw
  | notice
  | claim
  | release
  | releaseLate
  | returned
  | expire
  | criticalLate
  | alarmCleared
  | sessionOpen
  | sessionClose
  | sessionLost
  | grantEnd
  | reset
  | boot
  | profileSaved
  | profileLoaded
  | gap
  deriving DecidableEq, Repr

/-- A record as a block hands it over: all fields of R99 but the sequence, which the journal assigns (R103). -/
structure RecordBody where
  time : Time
  kind : RecordKind
  source : Option SourceNo := none
  cls : Option ClassNo := none
  notice : Option Byte := none
  count : Option (BitVec 32) := none
  deriving DecidableEq, Repr

/-- A journal record (R99). -/
structure JournalRecord where
  seq : Seq
  body : RecordBody
  deriving DecidableEq, Repr

/-- The event journal (R98): the records held, oldest first, and the next-sequence counter. -/
structure Journal where
  records : List JournalRecord
  next : Seq
  deriving DecidableEq, Repr

/-! ### Link Controller (07, 10) -/

/-- The link rates (R115). -/
inductive LinkRate where
  | b115200
  | b460800
  | b921600
  | b2000000
  deriving DecidableEq, Repr

/-- The result codes (00 Conventions, R167). -/
inductive Result where
  | ok
  | busy
  | conflict
  | range
  | noSession
  | unknown
  | malformed
  | notFound
  | wrongState
  | late
  | inUse
  | refused
  | empty
  | damaged
  deriving DecidableEq, Repr

/-- An order in the order window (R122): the kind and tag that its answer carries back. -/
structure Order where
  kind : Byte
  tag : Byte
  deriving DecidableEq, Repr

/-- An answer in the answer queue (R125, R126): its order, its result and its reply fields. Its link-flags byte is written as its
transmission begins (R123). -/
structure Answer where
  order : Order
  result : Result
  fields : List Byte
  deriving DecidableEq, Repr

/-- A frame on the link less its envelope (R164): kind, tag and payload. -/
structure Frame where
  kind : Byte
  tag : Byte
  payload : List Byte
  deriving DecidableEq, Repr

/-- What a frame in transmission is, for its completion (R128). A NOTICE frame is matched to the entry it was queued for, and not
to a number (R68): `notice none` is a NOTICE frame whose entry has been removed. -/
inductive Origin where
  | start
  /-- The answer to `order`; `restarts` when its completion begins a RESTART reset (R134). -/
  | answer (order : Order) (restarts : Bool)
  | notice (entry : Option Byte)
  | overdue
  deriving DecidableEq, Repr

/-- A frame being sent (R128), and the reading at which its last stop bit ends. -/
structure Sending where
  frame : Frame
  origin : Origin
  ends : Time
  deriving DecidableEq, Repr

/-- The six receive states with what the frame receiver has kept (R117). -/
inductive Receive where
  | hunt
  | len
  | kind (len : Nat)
  | tag (len : Nat) (kind : Byte)
  | payload (len : Nat) (kind tag : Byte) (got : List Byte)
  | check (kind tag : Byte) (payload : List Byte) (high : Option Byte)
  deriving DecidableEq, Repr

/-- How long RXD must have been high before the receiver takes its next fall as a start bit (R116): ten bit times once it has been
enabled, one bit time after a character error. -/
inductive Quiet where
  | enabled
  | characterError
  deriving DecidableEq, Repr

/-- The receiver waits for RXD high (R116): a byte event before the reading `ends` belongs to a character that is not taken. -/
structure RxWait where
  quiet : Quiet
  ends : Time
  deriving DecidableEq, Repr

/-- The Link Controller (R131). `rateB` and `rateA` are the levels of the strap pins, true for 1, and `rate` is the rate sampled
from them as the part last left reset (R115). `rxWait` is the wait of an enabled receiver for RXD high (R116). -/
@[ext] structure Link where
  rateB : Bool
  rateA : Bool
  rate : LinkRate
  rxEnabled : Bool
  rxWait : Option RxWait
  rx : Receive
  rxTimer : Option Time
  frameErrors : Half
  window : List Order
  answers : List Answer
  overrun : Bool
  startPending : Bool
  tx : Option Sending
  deriving DecidableEq, Repr

/-! ### Session Unit (08) -/

/-- How the most recent session ended (R135). -/
inductive EndCause where
  | none
  | closed
  | lost
  deriving DecidableEq, Repr

/-- The nesting modes (R61). -/
inductive Nesting where
  | free
  | ordered
  deriving DecidableEq, Repr

/-- The Session Unit (R135). `up` is the session state UP; `attn` is the ATTN output asserted. -/
@[ext] structure Session where
  up : Bool
  endCause : EndCause
  credit : Byte
  answerTimeout : Byte
  retryLimit : Byte
  nesting : Nesting
  attn : Bool
  deriving DecidableEq, Repr

/-! ### Profile Store and resets (09) -/

/-- A profile (R149). -/
structure Profile where
  steering : Vector SteerEntry 32
  settings : Vector ClassSettings 16
  pairings : Vector Pairing 8
  deriving DecidableEq, Repr

/-- A profile slot (R148). EMPTY and INVALID hold no profile, and their generation reads 0. -/
inductive Slot where
  | empty
  | invalid
  | valid (generation : BitVec 32) (profile : Profile)
  deriving DecidableEq, Repr

/-- The operation in progress (R151), with the order whose answer it holds back and the reading at which its write completes. -/
inductive Operation where
  | none
  | save (slot : SlotNo) (snapshot : Profile) (order : Order) (ends : Time)
  | setBoot (designation : Option SlotNo) (order : Order) (ends : Time)
  deriving DecidableEq, Repr

/-- The causes of a reset (R158). -/
inductive ResetCause where
  | powerOn
  | pin
  | restart
  deriving DecidableEq, Repr

/-- The boot outcomes (R161). -/
inductive BootOutcome where
  | slot (n : SlotNo)
  | noneDesignated
  | slotEmpty
  | slotInvalid
  deriving DecidableEq, Repr

/-- The Profile Store (R148), with the reset cause and boot outcome that start-up records (R160). -/
@[ext] structure Store where
  slots : Vector Slot 4
  generation : BitVec 32
  boot : Option SlotNo
  operation : Operation
  resetCause : ResetCause
  bootOutcome : BootOutcome
  deriving DecidableEq, Repr

/-- Where the part stands in a reset (R158): whether it is in reset, which causes last, whether the supply has been outside its
range since the part last left reset, and the cause of the reset that began last. -/
structure ResetUnit where
  inReset : Bool
  supplyOut : Bool
  pinLow : Bool
  supplyLost : Bool
  lastCause : ResetCause
  deriving DecidableEq, Repr

/-! ### Messages from block to block -/

/-- A report of changed contribution (R10): the source, its class, and whether it now contributes. -/
structure Report where
  source : SourceNo
  cls : ClassNo
  contributes : Bool
  deriving DecidableEq, Repr

/-- A request of the Notice Dispatcher to the Grant Line Unit (R91, R92), naming the entry by its number. -/
inductive GrantAsk where
  | grant (source : SourceNo) (notice : Byte)
  | finish (notice : Byte)
  deriving DecidableEq, Repr

/-- A retry-exhaustion report (R71): the exhausted entry's class and number. -/
structure LossReport where
  cls : ClassNo
  notice : Byte
  deriving DecidableEq, Repr

/-- The messages handed and not yet taken. Each list is oldest first. -/
@[ext] structure InFlight where
  reports : List Report
  asks : List GrantAsk
  withdrawals : List SourceNo
  arrivals : List RecordBody
  loss : Option LossReport
  deriving DecidableEq, Repr

/-! ### The whole part -/

/-- The state of the NM3208. `choices` counts the free values of Config taken so far, and `pending` is the queue of commands that
wait; these two are the model's own. -/
@[ext]
structure State where
  time : Time
  steering : Vector SteerEntry 32
  sources : Vector SourceRecord 32
  classes : Vector ClassRecord 16
  alarm : Bool
  dispatcher : Dispatcher
  lines : Vector LineRecord 8
  journal : Journal
  link : Link
  session : Session
  store : Store
  power : ResetUnit
  flight : InFlight
  choices : Nat
  pending : List Instr
  deriving DecidableEq, Repr

/-- The reasons a step can stop with a fault: none. Every event of the spec has an effect or is said to have none. -/
inductive Fault where
  deriving DecidableEq, Repr

/-- The reasons a command can be refused. -/
inductive Refusal where
  /-- Raised by `exec` alone, for a row of the table that has no meaning yet; no row of this model raises it. Safe: the model stops
  where the part goes on. -/
  | notModelled (mnemonic : String)
  deriving DecidableEq, Repr

/-! ### The record of each resource, read and written in one place -/

/-- The steering entry of a source. -/
def State.steer (s : State) (i : SourceNo) : SteerEntry := s.steering[i]

/-- The source record of a source. -/
def State.src (s : State) (i : SourceNo) : SourceRecord := s.sources[i]

/-- The class record of a class. -/
def State.klass (s : State) (c : ClassNo) : ClassRecord := s.classes[c]

/-- The grant line record of a line. -/
def State.line (s : State) (g : LineNo) : LineRecord := s.lines[g]

/-- A profile slot. -/
def Store.slot (t : Store) (n : SlotNo) : Slot := t.slots[n]

def State.setSteer (s : State) (i : SourceNo) (e : SteerEntry) : State :=
  { s with steering := s.steering.set i e }

def State.setSrc (s : State) (i : SourceNo) (r : SourceRecord) : State :=
  { s with sources := s.sources.set i r }

def State.setKlass (s : State) (c : ClassNo) (r : ClassRecord) : State :=
  { s with classes := s.classes.set c r }

def State.setLine (s : State) (g : LineNo) (r : LineRecord) : State :=
  { s with lines := s.lines.set g r }

def Store.setSlot (t : Store) (n : SlotNo) (x : Slot) : Store :=
  { t with slots := t.slots.set n x }

/-- S0 to S31 in source order. -/
def allSources : List SourceNo := List.finRange 32

/-- C0 to C15 in class order, which is the order of priority. -/
def allClasses : List ClassNo := List.finRange 16

/-- G0 to G7. -/
def allLines : List LineNo := List.finRange 8

/-- Slots 0 to 3. -/
def allSlots : List SlotNo := List.finRange 4

/-! ### Factory values and the state after reset -/

/-- The factory steering entry (R17). -/
def factoryEntry : SteerEntry := { mode := .off, cls := none, qualification := 0, journal := false }

/-- The factory class settings (R31). -/
def factorySettings : ClassSettings := { masked := false, critical := false, deadline := 1000, limit := 0 }

/-- The factory pairing (R86). -/
def factoryPairing : Pairing := { source := none, polarity := .activeHigh, guardTime := 0, endOnWithdraw := false }

/-- The factory profile (R149). -/
def factoryProfile : Profile :=
  { steering := Vector.replicate 32 factoryEntry
    settings := Vector.replicate 16 factorySettings
    pairings := Vector.replicate 8 factoryPairing }

/-- A source record as the part leaves reset, with its line at `level` and its mode OFF (R3). -/
def resetSource (level : Level) : SourceRecord :=
  { raw := level, qualified := level, timer := none, latch := false, count := 0, forced := false, live := false }

/-- A class record as the part leaves reset (R31, R57). -/
def resetClass (settings : ClassSettings) : ClassRecord :=
  { settings := settings, state := .idle, late := false, firstPending := none, deadlineTimer := none, holdTimer := none,
    reported := [] }

/-- A grant line as a profile's pairing is put in force (R86, R97). -/
def freshLine (p : Pairing) : LineRecord :=
  { pairing := p, state := if p.source.isSome then .ready else .unpaired, waiting := false, notice := none, guardTimer := none }

/-- No message in flight. -/
def noMessages : InFlight := { reports := [], asks := [], withdrawals := [], arrivals := [], loss := none }

/-- The Notice Dispatcher after any reset (R59). -/
def resetDispatcher : Dispatcher := { entries := [], nextNumber := 1, sendList := [] }

/-- The Session Unit after any reset (R135). -/
def resetSession : Session :=
  { up := false, endCause := .none, credit := 0, answerTimeout := 0, retryLimit := 0, nesting := .free, attn := false }

/-- The part right after a POWER-ON reset, start-up taken (R160), its store as delivered (R148): the factory profile is in force
with boot outcome 0x10 (R161), the journal holds RESET and BOOT at sequences 1 and 2 (R112), START is being sent (R131), and the
receiver waits for RXD high (R116; 19.5 bit times are 169.3 µs). The lines rest LOW and the straps read 0, 0 (DESIGN CHOICE, log 2
and 3). -/
def State.reset : State :=
  { time := 0
    steering := Vector.replicate 32 factoryEntry
    sources := Vector.replicate 32 (resetSource .low)
    classes := Vector.replicate 16 (resetClass factorySettings)
    alarm := false
    dispatcher := resetDispatcher
    lines := Vector.replicate 8 (freshLine factoryPairing)
    journal :=
      { records := [{ seq := 1, body := { time := 0, kind := .reset, count := some 1 } },
                    { seq := 2, body := { time := 0, kind := .boot, count := some 0x10 } }]
        next := 3 }
    link :=
      { rateB := false, rateA := false, rate := .b115200, rxEnabled := true, rxWait := some { quiet := .enabled, ends := 170 }, rx := .hunt, rxTimer := none,
        frameErrors := 0, window := [], answers := [], overrun := false, startPending := true,
        tx := some { frame := { kind := 0x62, tag := 0, payload := [0x01, 0x10, 0x00, 0x00, 0x00, 0x03] }
                     origin := .start, ends := 1041 } }
    session := resetSession
    store :=
      { slots := Vector.replicate 4 .empty, generation := 0, boot := none, operation := .none, resetCause := .powerOn,
        bootOutcome := .noneDesignated }
    power := { inReset := false, supplyOut := false, pinLow := false, supplyLost := false, lastCause := .powerOn }
    flight := noMessages
    choices := 0
    pending := [] }

end Sys2Proof.Machine
end

