-- ==== Sys2Proof/Machine/Operands.lean ====
section
/-! DEFINITION. The formats of 10_message_and_record_formats.md: byte order, codes of enumerated values, the fields of orders and
answers, the frame envelope and its CRC-16. -/

namespace Sys2Proof.Machine

/-! ### Byte order: most significant byte first (R163) -/

def be16 (h : Half) : List Byte := [h.extractLsb' 8 8, h.extractLsb' 0 8]

def be32 (w : BitVec 32) : List Byte :=
  [w.extractLsb' 24 8, w.extractLsb' 16 8, w.extractLsb' 8 8, w.extractLsb' 0 8]

def ofBe16 (hi lo : Byte) : Half := hi ++ lo

def ofBe32 (b3 b2 b1 b0 : Byte) : BitVec 32 := b3 ++ b2 ++ b1 ++ b0

/-! ### Numbers and sets (R163) -/

def byteOf (n : Nat) : Byte := BitVec.ofNat 8 n

def sourceNo? (b : Byte) : Option SourceNo := if h : b.toNat < 32 then some ⟨b.toNat, h⟩ else none

def classNo? (b : Byte) : Option ClassNo := if h : b.toNat < 16 then some ⟨b.toNat, h⟩ else none

def lineNo? (b : Byte) : Option LineNo := if h : b.toNat < 8 then some ⟨b.toNat, h⟩ else none

def slotNo? (b : Byte) : Option SlotNo := if h : b.toNat < 4 then some ⟨b.toNat, h⟩ else none

/-- A number that 0xFF stands for none of, such as class NONE or no source. The outer `none` is out of range. -/
def orNone? {α : Type} (number? : Byte → Option α) (b : Byte) : Option (Option α) :=
  if b = 0xFF then some none else (number? b).map some

/-- The byte of a number of a resource, 0xFF for none or absent. -/
def numberByte {n : Nat} (x : Option (Fin n)) : Byte :=
  match x with
  | some i => byteOf i.val
  | none => 0xFF

/-- The byte of a notice number, 0 for none or absent. -/
def noticeByte (x : Option Byte) : Byte := x.getD 0

/-- A source set: bit n stands for Sn. -/
def sourceSet (p : SourceNo → Bool) : BitVec 32 :=
  allSources.foldl (fun acc i => if p i then acc ||| BitVec.twoPow 32 i.val else acc) 0

/-- A class set: bit n stands for Cn. -/
def classSet (p : ClassNo → Bool) : Half :=
  allClasses.foldl (fun acc c => if p c then acc ||| BitVec.twoPow 16 c.val else acc) 0

/-! ### Codes of enumerated values (R163, R167, R170) -/

def flagByte (b : Bool) : Byte := if b then 1 else 0

def flag? (b : Byte) : Option Bool := if b = 0 then some false else if b = 1 then some true else none

def SourceMode.code : SourceMode → Byte
  | .off => 0
  | .rise => 1
  | .fall => 2
  | .both => 3
  | .levelHigh => 4
  | .levelLow => 5

def mode? (b : Byte) : Option SourceMode :=
  if b = 0 then some .off else if b = 1 then some .rise else if b = 2 then some .fall
  else if b = 3 then some .both else if b = 4 then some .levelHigh else if b = 5 then some .levelLow else none

def qualification? (b : Byte) : Option (Fin 16) := if h : b.toNat < 16 then some ⟨b.toNat, h⟩ else none

def ClassState.code : ClassState → Byte
  | .idle => 0
  | .pending => 1
  | .notified => 2
  | .inService => 3
  | .expired => 4
  | .held => 5

def EntryState.code : EntryState → Byte
  | .notified => 2
  | .inService => 3
  | .expired => 4

def LineState.code : LineState → Byte
  | .unpaired => 0
  | .ready => 1
  | .granted => 2
  | .guarding => 3

def Polarity.code : Polarity → Byte
  | .activeHigh => 0
  | .activeLow => 1

def polarity? (b : Byte) : Option Polarity :=
  if b = 0 then some .activeHigh else if b = 1 then some .activeLow else none

def EndCause.code : EndCause → Byte
  | .none => 0
  | .closed => 1
  | .lost => 2

def Nesting.code : Nesting → Byte
  | .free => 0
  | .ordered => 1

def nesting? (b : Byte) : Option Nesting := if b = 0 then some .free else if b = 1 then some .ordered else none

def ResetCause.code : ResetCause → Byte
  | .powerOn => 1
  | .pin => 2
  | .restart => 3

def Slot.code : Slot → Byte
  | .empty => 0
  | .valid _ _ => 1
  | .invalid => 2

def BootOutcome.code : BootOutcome → Byte
  | .slot n => byteOf n.val
  | .noneDesignated => 0x10
  | .slotEmpty => 0x11
  | .slotInvalid => 0x12

def Result.code : Result → Byte
  | .ok => 0x00
  | .busy => 0x01
  | .conflict => 0x02
  | .range => 0x03
  | .noSession => 0x04
  | .unknown => 0x05
  | .malformed => 0x06
  | .notFound => 0x07
  | .wrongState => 0x08
  | .late => 0x09
  | .inUse => 0x0A
  | .refused => 0x0B
  | .empty => 0x0C
  | .damaged => 0x0D

def RecordKind.code : RecordKind → Byte
  | .assert => 0x01
  | .assertForced => 0x02
  | .withdraw => 0x03
  | .notice => 0x10
  | .claim => 0x11
  | .release => 0x12
  | .releaseLate => 0x13
  | .returned => 0x14
  | .expire => 0x15
  | .criticalLate => 0x20
  | .alarmCleared => 0x21
  | .sessionOpen => 0x30
  | .sessionClose => 0x31
  | .sessionLost => 0x32
  | .grantEnd => 0x40
  | .reset => 0x50
  | .boot => 0x51
  | .profileSaved => 0x60
  | .profileLoaded => 0x61
  | .gap => 0x7F

/-! ### Records inside orders and answers -/

/-- The steering entry record of 4 bytes (R166). -/
def SteerEntry.bytes (e : SteerEntry) : List Byte :=
  [e.mode.code, numberByte e.cls, byteOf e.qualification.val, flagByte e.journal]

/-- The four fields of a steering entry as an order carries them; `none` when one is out of range (R20). -/
def steerEntry? (mode cls qual journal : Byte) : Option SteerEntry :=
  match mode? mode, orNone? classNo? cls, qualification? qual, flag? journal with
  | some m, some c, some q, some j => some { mode := m, cls := c, qualification := q, journal := j }
  | _, _, _, _ => none

/-- The class setting record of 6 bytes (R166). -/
def ClassSettings.bytes (x : ClassSettings) : List Byte :=
  [flagByte x.masked, flagByte x.critical] ++ be16 x.deadline ++ be16 x.limit

/-- The class setting record as an order carries it; `none` when a field is out of range, a deadline of 0 among them (R53). -/
def classSettings? (mask critical d1 d0 l1 l0 : Byte) : Option ClassSettings :=
  match flag? mask, flag? critical with
  | some m, some k =>
    if ofBe16 d1 d0 = 0 then none
    else some { masked := m, critical := k, deadline := ofBe16 d1 d0, limit := ofBe16 l1 l0 }
  | _, _ => none

/-- The pairing fields of a PAIR-GRANT (R89); `none` when one is out of range. -/
def pairing? (source polarity guardTime withdraw : Byte) : Option Pairing :=
  match orNone? sourceNo? source, polarity? polarity, flag? withdraw with
  | some i, some p, some w => some { source := i, polarity := p, guardTime := guardTime, endOnWithdraw := w }
  | _, _, _ => none

/-- The line record as PAIR-GRANT answers it (R167). -/
def LineRecord.bytes (r : LineRecord) : List Byte :=
  [numberByte r.pairing.source, r.pairing.polarity.code, r.pairing.guardTime, flagByte r.pairing.endOnWithdraw, r.state.code,
   flagByte r.waiting, noticeByte r.notice]

/-- The two bytes of a profile operation (R163). -/
def Operation.bytes : Operation → List Byte
  | .none => [0, 0xFF]
  | .save n _ _ _ => [1, byteOf n.val]
  | .setBoot _ _ _ => [2, 0xFF]

/-- A claim list: the source set, then one count byte for each source in ascending order (R168). -/
def claimListBytes (l : List ClaimItem) : List Byte :=
  be32 (sourceSet fun i => l.any fun x => x.source == i) ++ l.map (·.count)

/-- A journal record of 16 bytes (R170), absent fields with their fixed values (R171). -/
def JournalRecord.bytes (r : JournalRecord) : List Byte :=
  be32 r.seq ++ be32 r.body.time
    ++ [r.body.kind.code, numberByte r.body.source, numberByte r.body.cls, noticeByte r.body.notice]
    ++ be32 (r.body.count.getD 0)

/-! ### The frame envelope (R117, R164, R165) -/

/-- One bit of the CRC-16 with the polynomial x^16 + x^12 + x^5 + 1, most significant bit first (R117). -/
def crcBit (c : Half) : Half := if c.msb then (c <<< 1) ^^^ 0x1021 else c <<< 1

/-- One byte of the CRC-16. -/
def crcByte (c : Half) (b : Byte) : Half :=
  crcBit (crcBit (crcBit (crcBit (crcBit (crcBit (crcBit (crcBit (c ^^^ (b ++ (0 : Byte))))))))))

/-- The CRC-16 of some bytes, from the initial value 0xFFFF, with no final inversion (R117). -/
def crc16 (bytes : List Byte) : Half := bytes.foldl crcByte 0xFFFF

/-- The CHECK of a frame: over LEN, KIND, TAG and the payload (R117, R165). -/
def frameCheck (kind tag : Byte) (payload : List Byte) : Half :=
  crc16 (byteOf payload.length :: kind :: tag :: payload)

/-- The frame on the wire (R164): LEN + 6 bytes. -/
def Frame.wire (f : Frame) : List Byte :=
  [0xC3, byteOf f.payload.length, f.kind, f.tag] ++ f.payload ++ be16 (frameCheck f.kind f.tag f.payload)

/-- The frame that carries an answer (R125, R167); `mark` is the overrun mark. The answer to a frame of unknown kind has kind
0x80. -/
def Answer.frame (a : Answer) (mark : Bool) : Frame :=
  { kind := if a.result = .unknown then 0x80 else a.order.kind + 0x80
    tag := a.order.tag
    payload := [a.result.code, flagByte mark] ++ a.fields }

/-- The payload of a NOTICE frame (R67, R169). -/
def noticePayload (e : NoticeEntry) (again : Bool) : List Byte :=
  [e.number, byteOf e.cls.val, flagByte again ||| (flagByte e.critical <<< 1)] ++ be32 e.firstPending
    ++ be32 (sourceSet fun i => e.sendList.contains i)

/-- The payload of an OVERDUE frame (R80, R169). -/
def overduePayload (number : Byte) (c : ClassNo) (claimTime : Time) : List Byte :=
  [number, byteOf c.val] ++ be32 claimTime

/-- The payload of a START frame (R162, R169). -/
def startPayload (cause : ResetCause) (outcome : BootOutcome) (next : Seq) : List Byte :=
  [cause.code, outcome.code] ++ be32 next

/-- The kind code of a frame on the notice send list (R164). -/
def NoticeFrameKind.code : NoticeFrameKind → Byte
  | .first => 0x60
  | .again => 0x60
  | .overdue => 0x61

/-- The rate that the straps RATEB, RATEA give (R115). -/
def strapRate (b a : Bool) : LinkRate :=
  match b, a with
  | false, false => .b115200
  | false, true => .b460800
  | true, false => .b921600
  | true, true => .b2000000

def LinkRate.bitsPerSecond : LinkRate → Nat
  | .b115200 => 115200
  | .b460800 => 460800
  | .b921600 => 921600
  | .b2000000 => 2000000

/-- The length of a transmission: LEN + 6 bytes of 10 bit times each (R128), in whole µs rounded down (log 7). -/
def frameMicros (rate : LinkRate) (len : Nat) : Time :=
  BitVec.ofNat 32 ((len + 6) * 10 * 1000000 / rate.bitsPerSecond)

/-- For how many half bit times RXD has been high at the byte event of a character, the middle of its stop bit (R116): half a bit time
of the stop bit, and the data bits at 1 that end the character, the most significant last (R115). -/
def highHalfBits (b : Byte) : Nat := 1 + 2 * ((List.range 8).takeWhile fun k => b.getLsbD (7 - k)).length

/-- The half bit times for which RXD must have been high before a start bit (R116): ten bit times, or one. -/
def Quiet.halfBits : Quiet → Nat
  | .enabled => 20
  | .characterError => 2

/-- The time from now to the first byte event of a character that is taken, RXD having been high for `high` half bit times (R116): the
time that RXD must have been high before the start bit, and 9.5 bit times from its fall to the middle of the stop bit, in whole µs
rounded up (log 34, 36). -/
def quietMicros (rate : LinkRate) (quiet : Quiet) (high : Nat) : Time :=
  BitVec.ofNat 32 (((quiet.halfBits + 19 - high) * 500000 + (rate.bitsPerSecond - 1)) / rate.bitsPerSecond)

end Sys2Proof.Machine
end

