-- ==== Sys2Proof/Machine/Flags.lean ====
section
/-! DEFINITION. The conditions that the spec derives from the state: contribution, offered, eligible, ATTN, line outputs, timers. -/

namespace Sys2Proof.Machine

/-! ### Time (R1, R2) -/

/-- Milliseconds on the time base (R2). -/
def millis (ms : Half) : Time := BitVec.ofNat 32 (ms.toNat * 1000)

/-- Microseconds on the time base (R2). -/
def micros (us : Byte) : Time := BitVec.ofNat 32 us.toNat

/-- The length of a qualification of q steps of 20 µs (R2, R4). -/
def qualLength (q : Fin 16) : Time := BitVec.ofNat 32 (q.val * 20)

/-- The counter has reached an expiry reading. No timer is longer than 65,535,000 µs (R2), so a larger distance is one that the
counter has passed. -/
def reached (now expiry : Time) : Bool :=
  decide (expiry = now) || decide (65535000 < (expiry - now).toNat)

/-- A timer is running and has reached its expiry: only then is the expiry an event of the part (R2). A timer that is stopped, or that
has not run its length, does not expire. -/
def due (now : Time) (timer : Option Time) : Bool :=
  match timer with
  | some t => reached now t
  | none => false

/-- Whole milliseconds until a timer expires, rounded up (R56). -/
def remainingMs (now expiry : Time) : Half :=
  if reached now expiry then 0 else BitVec.ofNat 16 (((expiry - now).toNat + 999) / 1000)

/-- 255 saturates (R3). -/
def satSucc (c : Byte) : Byte := if c = 255 then 255 else c + 1

/-! ### Sources (R6 to R11) -/

/-- RISE, FALL and BOTH (R6). -/
def SourceMode.isEdge : SourceMode → Bool
  | .rise | .fall | .both => true
  | .off | .levelHigh | .levelLow => false

/-- LEVEL-HIGH and LEVEL-LOW (R6). -/
def SourceMode.isLevel : SourceMode → Bool
  | .levelHigh | .levelLow => true
  | .off | .rise | .fall | .both => false

/-- The live flag that R8 and R9 give for a mode, a qualified level and a forced flag. -/
def liveValue (m : SourceMode) (qualified : Level) (forced : Bool) : Bool :=
  match m with
  | .levelHigh => decide (qualified = .high) || forced
  | .levelLow => decide (qualified = .low) || forced
  | .off | .rise | .fall | .both => false

/-- Whether a qualified transition to `level` is an assertion event in an edge mode (R6). -/
def SourceMode.actsOn (m : SourceMode) (level : Level) : Bool :=
  match m with
  | .rise => decide (level = .high)
  | .fall => decide (level = .low)
  | .both => true
  | .off | .levelHigh | .levelLow => false

/-- Whether a source contributes (R10). -/
def contributesIn (m : SourceMode) (r : SourceRecord) : Bool :=
  (m.isEdge && r.latch) || (m.isLevel && r.live)

/-- Whether source `i` contributes (R10). -/
def State.contributes (s : State) (i : SourceNo) : Bool := contributesIn (s.steer i).mode (s.src i)

/-- The members of a class in order of source number (R18). -/
def State.members (s : State) (c : ClassNo) : List SourceNo :=
  allSources.filter fun i => (s.steer i).cls == some c

/-- The members of a class that contribute: the reading of R32. -/
def State.contributors (s : State) (c : ClassNo) : List SourceNo := (s.members c).filter s.contributes

/-! ### Classes and notices (R41, R60, R61) -/

/-- A class is offered: PENDING, and unmasked or critical (R41). -/
def ClassRecord.offered (r : ClassRecord) : Bool :=
  decide (r.state = .pending) && (!r.settings.masked || r.settings.critical)

/-- A class state that has a notice-table entry (R60). -/
def ClassState.inFlight : ClassState → Bool
  | .notified | .inService | .expired => true
  | .idle | .pending | .held => false

/-- The class state of the same name (R60). -/
def EntryState.toClass : EntryState → ClassState
  | .notified => .notified
  | .inService => .inService
  | .expired => .expired

/-- A class in service, IN-SERVICE or EXPIRED, blocks under ORDERED nesting (R61, R62). -/
def ClassState.blocks : ClassState → Bool
  | .inService | .expired => true
  | .idle | .pending | .notified | .held => false

/-- The room test of R61, condition 3. -/
def State.roomFor (s : State) (critical : Bool) : Bool :=
  if critical then decide (s.dispatcher.entries.length < 8)
  else decide (s.dispatcher.entries.length < s.session.credit.toNat)

/-- The nesting test of R61, condition 4. -/
def State.nestingAllows (s : State) (c : ClassNo) : Bool :=
  decide (s.session.nesting = .free) || allClasses.all fun d => !(s.klass d).state.blocks || decide (c < d)

/-- A class is eligible for notice (R61). -/
def State.eligible (s : State) (c : ClassNo) : Bool :=
  s.session.up && (s.klass c).offered && s.roomFor (s.klass c).settings.critical && s.nestingAllows c

/-- The entry that carries a notice number (R60, R72). No entry carries 0. -/
def State.entry? (s : State) (n : Byte) : Option NoticeEntry :=
  if n = 0 then none else s.dispatcher.entries.find? fun e => e.number == n

/-- The number of a class's entry, or 0 when it has none (R56). -/
def State.noticeOf (s : State) (c : ClassNo) : Byte :=
  ((s.dispatcher.entries.find? fun e => e.cls == c).map (·.number)).getD 0

/-! ### Outputs (R50, R87, R143) -/

/-- The condition under which ATTN is asserted (R143). -/
def State.attnCondition (s : State) : Bool := !s.session.up && allClasses.any fun c => (s.klass c).offered

/-- The active level of a polarity (R87). -/
def Polarity.activeLevel : Polarity → Level
  | .activeHigh => .high
  | .activeLow => .low

/-- The other level. -/
def otherLevel : Level → Level
  | .high => .low
  | .low => .high

/-- The level at which a line record drives its output (R87). -/
def LineRecord.output (r : LineRecord) : Level :=
  if r.state = .granted then r.pairing.polarity.activeLevel else otherLevel r.pairing.polarity.activeLevel

/-- The output of a grant line: low in reset, by its record otherwise (R87). -/
def State.lineOutput (s : State) (g : LineNo) : Level :=
  if s.power.inReset then .low else (s.line g).output

/-- The grant line paired with a source, of which there is at most one (R88). -/
def State.pairedLine (s : State) (i : SourceNo) : Option LineNo :=
  allLines.find? fun g => (s.line g).pairing.source == some i

/-- The set of late classes (R49). -/
def State.lateClasses (s : State) : Half := classSet fun c => (s.klass c).late

end Sys2Proof.Machine
end

