-- ==== Sys2Proof/Machine/Ops.lean ====
section
/-! DEFINITION. The shared operations of the blocks: the journal, source events, class transitions, notice creation, the
transmitter, answers, grant lines, teardown, a profile put in force, and the beginning of a reset. -/

namespace Sys2Proof.Machine

/-! ### The journal (R101 to R105) -/

/-- How many sequence numbers a record covers (R101). -/
def JournalRecord.coverage (r : JournalRecord) : Nat :=
  if r.body.kind = .gap then (r.body.count.getD 0).toNat else 1

/-- The oldest sequence (R101). -/
def Journal.oldest (j : Journal) : Seq :=
  match j.records with
  | [] => j.next
  | r :: _ => r.seq

/-- The length of the covered run (R101). -/
def Journal.covered (j : Journal) : Nat := (j.next - j.oldest).toNat

/-- A record joins at the newest end with the next sequence. -/
def Journal.append (j : Journal) (b : RecordBody) : Journal :=
  { records := j.records ++ [{ seq := j.next, body := b }], next := j.next + 1 }

/-- The GAP that stands in place of an arrival (R104). -/
def gapFor (b : RecordBody) : RecordBody := { time := b.time, kind := .gap, count := some 1 }

/-- A GAP absorbs an arrival: its count rises by 1 (R104). -/
def JournalRecord.absorb (r : JournalRecord) : JournalRecord :=
  { r with body := { r.body with count := r.body.count.map (· + 1) } }

/-- An arrival is appended, becomes a GAP, is absorbed into one (R104), or is dropped (R105). A journal of 128 records has a GAP
as its newest record (R104), so the last case is a journal of 127. -/
def Journal.arrive (j : Journal) (b : RecordBody) : Journal :=
  if 2147483647 ≤ j.covered then j
  else if j.records.length ≤ 126 then j.append b
  else
    match j.records.getLast? with
    | some r =>
      if r.body.kind = .gap then { records := j.records.dropLast ++ [r.absorb], next := j.next + 1 }
      else j.append (gapFor b)
    | none => j.append (gapFor b)

/-- A block hands a record to the journal, which takes it as an event of its own (R103). -/
def State.hand (s : State) (b : RecordBody) : State :=
  { s with flight := { s.flight with arrivals := s.flight.arrivals ++ [b] } }

/-- A record of a class and a notice. -/
def State.handNotice (s : State) (k : RecordKind) (c : ClassNo) (n : Byte) (count : Option (BitVec 32)) : State :=
  s.hand { time := s.time, kind := k, cls := some c, notice := some n, count := count }

/-- A record with a count alone. -/
def State.handCount (s : State) (k : RecordKind) (count : BitVec 32) : State :=
  s.hand { time := s.time, kind := k, count := some count }

/-- ASSERT, ASSERT-FORCED and WITHDRAW are handed when the source's journal option is on, with the class if steered (R7, R8,
R106). -/
def State.handSource (s : State) (i : SourceNo) (k : RecordKind) (count : Option (BitVec 32)) : State :=
  if (s.steer i).journal then s.hand { time := s.time, kind := k, source := some i, cls := (s.steer i).cls, count := count } else s

/-- GRANT-END names the source, with the line as its count (R91, R94). -/
def State.handGrantEnd (s : State) (i : SourceNo) (g : LineNo) : State :=
  s.hand { time := s.time, kind := .grantEnd, source := some i, count := some (BitVec.ofNat 32 g.val) }

/-- The journal takes every record handed to it and not yet taken, oldest first. -/
def State.takeArrivals (s : State) : State :=
  { s with journal := s.flight.arrivals.foldl Journal.arrive s.journal, flight := { s.flight with arrivals := [] } }

/-! ### Events on a source (R6 to R11, R94) -/

/-- The report of a changed contribution, for a source steered to a class (R10, R11). -/
def State.report (s : State) (i : SourceNo) (contributes : Bool) : State :=
  match (s.steer i).cls with
  | some c =>
    { s with flight := { s.flight with
        reports := s.flight.reports ++ [{ source := i, cls := c, contributes := contributes }] } }
  | none => s

/-- The Grant Line Unit is told of a withdrawal (R94). -/
def State.tellWithdrawal (s : State) (i : SourceNo) : State :=
  { s with flight := { s.flight with withdrawals := s.flight.withdrawals ++ [i] } }

/-- The kind of an assertion's record (R7, R8). -/
def assertKind (forced : Bool) : RecordKind := if forced then .assertForced else .assert

/-- An assertion event (R7). `forced` says that it comes from FORCE PULSE. -/
def State.assertEvent (s : State) (i : SourceNo) (forced : Bool) : State :=
  let r := s.src i
  let n := satSucc r.count
  let s := s.setSrc i { r with latch := true, count := n }
  let s := s.handSource i (assertKind forced) (some (n.zeroExtend 32))
  if r.latch then s else s.report i true

/-- The live flag is re-derived (R8). `forced` says that a FORCE order caused it. -/
def State.deriveLive (s : State) (i : SourceNo) (forced : Bool) : State :=
  let r := s.src i
  let v := liveValue (s.steer i).mode r.qualified r.forced
  if v = r.live then s
  else if v then
    let n := satSucc r.count
    ((s.setSrc i { r with live := true, count := n }).handSource i (assertKind forced) (some (n.zeroExtend 32))).report i true
  else
    (((s.setSrc i { r with live := false }).handSource i .withdraw none).report i false).tellWithdrawal i

/-- A qualified transition: the qualified level becomes `level`, and the source's mode decides what that means (R6). -/
def State.transition (s : State) (i : SourceNo) (level : Level) : State :=
  let s := s.setSrc i ({ s.src i with qualified := level } : SourceRecord)
  let m := (s.steer i).mode
  if m.isLevel then s.deriveLive i false
  else if m.actsOn level then s.assertEvent i false
  else s

/-! ### Transitions of a class record (R31 to R40) -/

/-- A set of sources with one added, in source order. -/
def insertSource (i : SourceNo) (l : List SourceNo) : List SourceNo := allSources.filter fun j => j == i || l.contains j

/-- A set of sources with one removed. -/
def removeSource (i : SourceNo) (l : List SourceNo) : List SourceNo := l.filter fun j => j != i

/-- The class enters IDLE (R33). It is read without contributions, so the reported set is empty. -/
def ClassRecord.enterIdle (r : ClassRecord) : ClassRecord :=
  { r with state := .idle, firstPending := none, deadlineTimer := none, holdTimer := none, late := false, reported := [] }

/-- The class enters PENDING by a fresh entry at the reading `now` (R34). -/
def ClassRecord.enterFresh (r : ClassRecord) (now : Time) (found : List SourceNo) : ClassRecord :=
  { r with
    state := .pending, firstPending := some now, late := false, reported := found
    deadlineTimer := if r.settings.critical then some (now + millis r.settings.deadline) else none }

/-- The class enters PENDING by a continued entry: first-pending time, deadline timer and late flag are kept (R34). Leaving HELD,
its hold timer has stopped (R40). -/
def ClassRecord.enterContinued (r : ClassRecord) (found : List SourceNo) : ClassRecord :=
  { r with state := .pending, holdTimer := none, reported := found }

/-- A class read at the end of a service goes to PENDING by a fresh entry, or to IDLE (R38, R39). -/
def ClassRecord.settleFresh (r : ClassRecord) (now : Time) (found : List SourceNo) : ClassRecord :=
  if found = [] then r.enterIdle else r.enterFresh now found

/-- A class read at the end of a notice or hold goes to PENDING by a continued entry, or to IDLE (R37, R40). -/
def ClassRecord.settleContinued (r : ClassRecord) (found : List SourceNo) : ClassRecord :=
  if found = [] then r.enterIdle else r.enterContinued found

/-- A re-evaluation (R24, R32, R35, R36). -/
def ClassRecord.reevaluate (r : ClassRecord) (now : Time) (found : List SourceNo) : ClassRecord :=
  match r.state with
  | .idle => r.settleFresh now found
  | .pending => if found = [] then r.enterIdle else { r with reported := found }
  | .notified | .inService | .expired | .held => r

/-- A report that a member now contributes (R31, R35, R36). -/
def ClassRecord.reportOn (r : ClassRecord) (now : Time) (i : SourceNo) : ClassRecord :=
  match r.state with
  | .idle => r.enterFresh now (insertSource i r.reported)
  | .pending => { r with reported := insertSource i r.reported }
  | .notified | .inService | .expired | .held => r

/-- A report that a member no longer contributes: in PENDING the class is read (R31, R35, R36). In IDLE, where the class stays (R35),
only the source named is removed from the reported set and no reading replaces the set, which is the model's choice (log 15). -/
def ClassRecord.reportOff (r : ClassRecord) (i : SourceNo) (found : List SourceNo) : ClassRecord :=
  match r.state with
  | .idle => { r with reported := removeSource i r.reported }
  | .pending => if found = [] then r.enterIdle else { r with reported := found }
  | .notified | .inService | .expired | .held => r

/-- What teardown does to a class (R37 to R40, R84, R140). -/
def ClassRecord.tornDown (r : ClassRecord) (now : Time) (found : List SourceNo) : ClassRecord :=
  match r.state with
  | .notified | .held => r.settleContinued found
  | .inService | .expired => r.settleFresh now found
  | .idle | .pending => r

/-- The class is placed in IDLE with new settings and then re-evaluated (R57, R58). -/
def ClassRecord.loaded (r : ClassRecord) (x : ClassSettings) (now : Time) (found : List SourceNo) : ClassRecord :=
  ({ r with settings := x }).enterIdle.settleFresh now found

/-- The Steering Table has a class re-evaluated (R24). -/
def State.reevaluate (s : State) (c : ClassNo) : State :=
  s.setKlass c ((s.klass c).reevaluate s.time (s.contributors c))

/-- The Session Unit re-evaluates ATTN (R41, R143). -/
def State.evalAttn (s : State) : State := { s with session := { s.session with attn := s.attnCondition } }

/-! ### The notice table and the dispatch arbiter (R63 to R66) -/

/-- The number that follows, 1 following 255 (R65). -/
def nextNumber (n : Byte) : Byte := if n = 255 then 1 else n + 1

/-- The first number from `n` on that no entry carries (R65), tried at most `fuel` more times. -/
def freeNumber (entries : List NoticeEntry) : Nat → Byte → Byte
  | 0, n => n
  | fuel + 1, n => if entries.any fun e => e.number == n then freeNumber entries fuel (nextNumber n) else n

/-- An entry of the table is replaced by what `f` makes of it. -/
def Dispatcher.update (d : Dispatcher) (n : Byte) (f : NoticeEntry → NoticeEntry) : Dispatcher :=
  { d with entries := d.entries.map fun e => if e.number = n then f e else e }

/-- The frames of an entry leave the notice send list unsent (R66). -/
def Dispatcher.dropFrames (d : Dispatcher) (n : Byte) : Dispatcher :=
  { d with sendList := d.sendList.filter fun f => f.notice != n }

/-- An entry leaves the table. -/
def Dispatcher.remove (d : Dispatcher) (n : Byte) : Dispatcher :=
  { d with entries := d.entries.filter fun e => e.number != n }

/-- A frame joins the notice send list (R66). -/
def Dispatcher.join (d : Dispatcher) (f : NoticeFrame) : Dispatcher := { d with sendList := d.sendList ++ [f] }

/-- A NOTICE frame in transmission whose entry is removed reaches no entry at its completion (R68). -/
def Sending.detach (t : Sending) (gone : Byte → Bool) : Sending :=
  match t.origin with
  | .notice (some n) => if gone n then { t with origin := .notice none } else t
  | _ => t

/-- The transmission under way loses its entry when that entry is removed. -/
def State.detach (s : State) (gone : Byte → Bool) : State :=
  { s with link := { s.link with tx := s.link.tx.map fun t => t.detach gone } }

/-- The entry is removed from the table with its frames that are still unsent (R75 to R77). -/
def State.removeEntry (s : State) (n : Byte) : State :=
  ({ s with dispatcher := (s.dispatcher.dropFrames n).remove n }).detach fun m => m == n

/-- The entry that the arbiter creates for a class (R59, R64). -/
def newEntry (n : Byte) (c : ClassNo) (r : ClassRecord) : NoticeEntry :=
  { number := n, cls := c, state := .notified, sent := 0, sendList := r.reported, firstPending := r.firstPending.getD 0,
    critical := r.settings.critical, claimList := none, claimTime := none, answerTimer := none, serviceTimer := none }

/-- The arbiter creates a notice for a class (R64). -/
def State.createNotice (s : State) (c : ClassNo) : State :=
  let d := s.dispatcher
  let n := freeNumber d.entries d.entries.length d.nextNumber
  let e := newEntry n c (s.klass c)
  let s := { s with dispatcher :=
    { entries := d.entries ++ [e], nextNumber := nextNumber n
      sendList := d.sendList ++ [({ notice := n, cls := c, kind := .first, payload := noticePayload e false } : NoticeFrame)] } }
  let s := s.setKlass c ({ s.klass c with state := .notified } : ClassRecord)
  s.handNotice .notice c n none

/-- One step of the arbiter at one class. -/
def State.dispatchAt (s : State) (c : ClassNo) : State := if s.eligible c then s.createNotice c else s

/-- A run of the dispatch arbiter (R63): it takes eligible classes, lowest number first, until none is eligible. A creation makes
no class eligible that was not, so one pass in class order is the whole run. -/
def State.dispatch (s : State) : State := allClasses.foldl State.dispatchAt s

/-! ### The transmitter and the answers (R121 to R128) -/

/-- A frame begins to be sent (R128). -/
def State.send (s : State) (f : Frame) (o : Origin) : State :=
  { s with link := { s.link with
      tx := some { frame := f, origin := o, ends := s.time + frameMicros s.link.rate f.payload.length } } }

/-- START begins; its flag stays set until its completion (R127, R162). -/
def State.sendStart (s : State) : State :=
  s.send { kind := 0x62, tag := 0, payload := startPayload s.store.resetCause s.store.bootOutcome s.journal.next } .start

/-- An answer begins: it takes the overrun mark, and the overrun flag is cleared (R123). -/
def State.sendAnswer (s : State) (a : Answer) (rest : List Answer) : State :=
  let mark := s.link.overrun
  let s := { s with link := { s.link with answers := rest, overrun := false } }
  s.send (a.frame mark) (.answer a.order (decide (a.order.kind = 0x17 ∧ a.result = .ok)))

/-- A frame of the notice send list begins and is no longer on the list (R66). -/
def State.sendNotice (s : State) (f : NoticeFrame) : State :=
  let s := { s with dispatcher := { s.dispatcher with sendList := s.dispatcher.sendList.erase f } }
  s.send { kind := f.kind.code, tag := 0, payload := f.payload }
    (match f.kind with
     | .overdue => .overdue
     | .first | .again => .notice (some f.notice))

/-- The first frame of the notice send list: the one of the lowest-numbered class (R66). -/
def firstFrame (l : List NoticeFrame) : Option NoticeFrame :=
  allClasses.findSome? fun c => l.find? fun f => f.cls == c

/-- The transmitter arbiter: while the transmitter is idle it takes START, else the oldest answer, else the first notice frame
(R127). -/
def State.transmit (s : State) : State :=
  if s.link.tx.isSome then s
  else if s.link.startPending then s.sendStart
  else
    match s.link.answers with
    | a :: rest => s.sendAnswer a rest
    | [] =>
      match firstFrame s.dispatcher.sendList with
      | some f => s.sendNotice f
      | none => s

/-- The transmitter arbiter where an answer and a notice frame have joined together: either joining may be taken first (R127), so
a free value decides (log 9). -/
def State.transmitJoined (s : State) : State :=
  if s.link.tx.isSome || s.link.startPending || s.link.answers.isEmpty then s.transmit
  else
    match firstFrame s.dispatcher.sendList with
    | some f =>
      let t := { s with choices := s.choices + 1 }
      if Config.noticeJoinsFirst s.choices then t.sendNotice f else t.transmit
    | none => s.transmit

/-- The answer of an order joins the answer queue (R125, R126). -/
def State.enqueue (s : State) (o : Order) (r : Result) (fields : List Byte) : State :=
  { s with link := { s.link with answers := s.link.answers ++ [{ order := o, result := r, fields := fields }] } }

/-- An order that causes no other frame is answered. -/
def State.reply (s : State) (o : Order) (r : Result) (fields : List Byte) : State := (s.enqueue o r fields).transmit

/-- An order whose effect may make classes eligible is answered; then the dispatch arbiter runs (R63), ATTN is evaluated (R143),
and the transmitter arbiter runs. -/
def State.replyAndDispatch (s : State) (o : Order) (r : Result) (fields : List Byte) : State :=
  ((s.enqueue o r fields).dispatch.evalAttn).transmitJoined

/-- What follows an event that may make classes eligible and is no order. -/
def State.settle (s : State) : State := (s.dispatch.evalAttn).transmit

/-- The answer to an order of a wrong length (R121 step 3, R125). -/
def State.replyMalformed (s : State) (o : Order) (payload : List Byte) : State :=
  s.reply o .malformed [byteOf payload.length]

/-- The order enters the order window (R122), its last byte having left the receiver in HUNT (R117). -/
def State.enterWindow (s : State) (o : Order) : State :=
  { s with link := { s.link with rx := .hunt, rxTimer := none, window := s.link.window ++ [o] } }

/-- The frame is discarded because the window is full, and the overrun flag is set (R121 step 1, R123). -/
def State.discard (s : State) : State :=
  { s with link := { s.link with rx := .hunt, rxTimer := none, overrun := true } }

/-- The receiver waits for RXD high, which it has been for `high` half bit times (R116; log 34, 36). -/
def State.waitQuiet (s : State) (quiet : Quiet) (high : Nat) : State :=
  { s with link := { s.link with rxWait := some { quiet := quiet, ends := s.time + quietMicros s.link.rate quiet high } } }

/-- Characters come while the receiver waits for RXD high, `high` half bit times of which stand behind the last one: they are not taken.
The ten bit times of an enabled receiver begin again from them (R116; log 34). The one bit time after a character error does not: its
reading stands before any character that can be taken (log 36). -/
def State.passOver (s : State) (w : RxWait) (high : Nat) : State :=
  match w.quiet with
  | .enabled => s.waitQuiet .enabled high
  | .characterError => s

/-- A whole frame arrives at order admission (R121): with the window full it is discarded, otherwise the order enters the window
and `body` takes it. A disabled receiver receives nothing, and one that waits for RXD high takes none of the frame's characters, of
which the last is the low byte of the CHECK (R116). -/
def State.takeOrder (s : State) (kind tag : Byte) (payload : List Byte) (body : Order → State → State) : State :=
  if s.link.rxEnabled then
    match s.link.rxWait with
    | some w => s.passOver w (highHalfBits ((frameCheck kind tag payload).setWidth 8))
    | none =>
      if 4 ≤ s.link.window.length then s.discard
      else body { kind := kind, tag := tag } (s.enterWindow { kind := kind, tag := tag })
  else s

/-! ### Grant lines and the requests made of them (R86 to R93) -/

/-- A grant ends: the line drops and enters its guard, or READY when the guard is 0 (R92, R93). -/
def LineRecord.endGrant (r : LineRecord) (now : Time) : LineRecord :=
  if r.pairing.guardTime = 0 then { r with state := .ready, notice := none }
  else { r with state := .guarding, waiting := false, notice := none, guardTimer := some (now + micros r.pairing.guardTime) }

/-- A waiting line no longer waits; its guard runs on (R92, R94). -/
def LineRecord.endWait (r : LineRecord) : LineRecord := { r with waiting := false, notice := none }

/-- A line that holds a notice, GRANTED or waiting, gives it up; any other line is left as it is (R92, R94). -/
def LineRecord.finish (r : LineRecord) (now : Time) : LineRecord :=
  if r.state = .granted then r.endGrant now
  else if r.state = .guarding ∧ r.waiting then r.endWait
  else r

/-- The line is GRANTED or waiting. -/
def LineRecord.holds (r : LineRecord) : Bool :=
  decide (r.state = .granted) || (decide (r.state = .guarding) && r.waiting)

/-- A grant request acts on the line's state (R91). -/
def LineRecord.grant (r : LineRecord) (n : Byte) : LineRecord :=
  match r.state with
  | .ready => { r with state := .granted, notice := some n }
  | .guarding => { r with waiting := true, notice := some n }
  | .unpaired | .granted => r

/-- End-on-withdraw applies to the line: its option is on and the source is in a level mode (R88, R91, R94). -/
def State.withdrawApplies (s : State) (i : SourceNo) (g : LineNo) : Bool :=
  (s.line g).pairing.endOnWithdraw && (s.steer i).mode.isLevel

/-- A request is handed to the Grant Line Unit, behind those already handed (R73). -/
def State.ask (s : State) (l : List GrantAsk) : State :=
  { s with flight := { s.flight with asks := s.flight.asks ++ l } }

/-- The source is not live, and its withdrawal has reached the Grant Line Unit: none that was told is still to be taken (R91). Where one
is, the grant request has been taken before the withdrawal, and R95 gives it the grant (log 32). -/
def State.withdrawn (s : State) (i : SourceNo) : Bool := !(s.src i).live && !s.flight.withdrawals.contains i

/-- A request to grant: the end-on-withdraw test, then the grant (R91, R95). -/
def State.takeGrant (s : State) (i : SourceNo) (n : Byte) : State :=
  match s.pairedLine i with
  | some g =>
    if s.withdrawApplies i g && s.withdrawn i then s.handGrantEnd i g
    else s.setLine g ((s.line g).grant n)
  | none => s

/-- A request to end the grants of an entry, acting on each line whose grant notice is its number (R92). -/
def State.takeFinish (s : State) (n : Byte) : State :=
  { s with lines := s.lines.map fun r => if r.notice = some n then r.finish s.time else r }

/-- The Grant Line Unit takes one request. -/
def State.takeAsk (s : State) (a : GrantAsk) : State :=
  match a with
  | .grant i n => s.takeGrant i n
  | .finish n => s.takeFinish n

/-- The Grant Line Unit takes every request handed to it and not yet taken, in order (R73; log 13). -/
def State.takeAsks (s : State) : State :=
  s.flight.asks.foldl State.takeAsk { s with flight := { s.flight with asks := [] } }

/-! ### Teardown (R84, R140) -/

/-- The grants of every entry end (R84 step 3, R92). Teardown is taken whole (R140), so the requests are taken within it, behind those
handed before (R73): at its end no line is GRANTED or waiting. The entries' requests are made in the order of the table, which is the
model's choice, since no rule orders them (log 31). -/
def State.endGrants (s : State) : State :=
  (s.ask (s.dispatcher.entries.map fun e => .finish e.number)).takeAsks

/-- Teardown of a session that is UP, with its end cause and the record of its end (R140). -/
def State.teardown (s : State) (cause : EndCause) (k : RecordKind) (c : Option ClassNo) (n : Option Byte) : State :=
  let count := s.dispatcher.entries.length
  let s := s.endGrants
  let s := { s with
    flight := { s.flight with loss := none }
    dispatcher := { s.dispatcher with entries := [], sendList := [] }
    classes := Vector.ofFn (fun c => (s.klass c).tornDown s.time (s.contributors c))
    session := { s.session with up := false, endCause := cause } }
  let s := s.detach fun _ => true
  let s := s.hand { time := s.time, kind := k, cls := c, notice := n, count := some (BitVec.ofNat 32 count) }
  s.evalAttn

/-- The Session Unit takes a retry-exhaustion report (R71, R139). -/
def State.takeLoss (s : State) : State :=
  match s.flight.loss with
  | some l => s.teardown .lost .sessionLost (some l.cls) (some l.notice)
  | none => s

/-! ### A profile put in force (R150) -/

/-- The live tables as a profile (R149, R152). -/
def State.snapshot (s : State) : Profile :=
  { steering := s.steering, settings := s.classes.map (·.settings), pairings := s.lines.map (·.pairing) }

/-- A source record under a new mode: latch, count and forced flag are cleared, and the live flag takes the value of R9. A running
qualification timer is kept (R5). -/
def SourceRecord.cleared (r : SourceRecord) (m : SourceMode) : SourceRecord :=
  { r with latch := false, count := 0, forced := false, live := liveValue m r.qualified false }

/-- Steps 1 to 3 of R150: steering, source records, grant lines. -/
def State.loadTables (s : State) (p : Profile) : State :=
  { s with
    steering := p.steering
    sources := Vector.ofFn (fun i => (s.src i).cleared (p.steering[i]).mode)
    lines := Vector.ofFn fun g => freshLine p.pairings[g] }

/-- Step 4 of R150: every class takes its settings, is placed in IDLE and is re-evaluated (R57, R58). -/
def State.loadClasses (s : State) (p : Profile) : State :=
  { s with classes := Vector.ofFn fun c => (s.klass c).loaded p.settings[c] s.time (s.contributors c) }

/-! ### The beginning of a reset (R158) -/

/-- An overtaken save leaves its slot INVALID, as its beginning made it; an overtaken set-boot leaves the designation none
(R158). The operation is gone. -/
def Store.overtaken (t : Store) : Store := { t with operation := .none }

/-- The Link Controller while in reset (R131). R131 gives the link rate no value there: the model keeps the rate of before the reset,
which nothing reads until start-up samples the straps (the model's choice: log 33). -/
def Link.inReset (l : Link) : Link :=
  { l with
    rxEnabled := false, rxWait := none, rx := .hunt, rxTimer := none, frameErrors := 0, window := [], answers := [], overrun := false
    startPending := false, tx := none }

/-- The journal at a reset: a POWER-ON empties it (R98, R112); a PIN or RESTART keeps it, with the records of every event taken
before the reset (R113). -/
def State.journalAtReset (s : State) (cause : ResetCause) : Journal :=
  match cause with
  | .powerOn => { records := [], next := 1 }
  | .pin | .restart => s.takeArrivals.journal

/-- A source record in reset: its line is still seen (R3), everything else takes its reset value. R3 gives the qualified level and the
live flag only as the part leaves reset: until then the model holds the raw level as the reset began, and false (the model's choice:
log 21). -/
def SourceRecord.inReset (r : SourceRecord) : SourceRecord := resetSource r.raw

/-- A grant line in reset: the guard, the waiting flag and the grant are gone (R86); its output is low (R87). -/
def LineRecord.inReset (r : LineRecord) : LineRecord := freshLine r.pairing

/-- A reset begins: every block takes its reset values (R158), the counter reads 0 (R1), ALARM and ATTN are released (R50, R135),
and the messages in flight are overtaken (R113). The steering entries, class settings and pairings are left to start-up (log 21). -/
def State.beginReset (s : State) (cause : ResetCause) : State :=
  { s with
    time := 0
    sources := s.sources.map SourceRecord.inReset
    classes := s.classes.map (fun r => resetClass r.settings)
    alarm := false
    dispatcher := resetDispatcher
    lines := s.lines.map LineRecord.inReset
    journal := s.journalAtReset cause
    link := s.link.inReset
    session := resetSession
    store := s.store.overtaken
    power := { s.power with inReset := true, lastCause := cause }
    flight := noMessages }

end Sys2Proof.Machine
end

