-- ==== Sys2Proof/Machine/Classes.lean ====
section
/-! DEFINITION. The Class Engine's events and orders: CONTRIBUTION_REPORT, DEADLINE_EXPIRY, HOLD_EXPIRY, SET-CLASS, GET-CLASS, MASK,
CLEAR-ALARM (03). -/

namespace Sys2Proof.Machine

/-! ### Reports and expiries -/

/-- A report is taken by the class it names (R32, R35, R36). -/
def State.takeReport (s : State) (r : Report) : State :=
  s.setKlass r.cls
    (if r.contributes then (s.klass r.cls).reportOn s.time r.source
     else (s.klass r.cls).reportOff r.source (s.contributors r.cls))

/-- CONTRIBUTION_REPORT: the oldest untaken report of the source is taken; the arbiter and ATTN follow (R41). -/
def execContributionReport (source : SourceNo) (s : State) : Host.Outcome State Fault Refusal :=
  match s.flight.reports.find? fun r => r.source == source with
  | some r =>
    .next (({ s with flight := { s.flight with reports := s.flight.reports.erase r } }).takeReport r).settle
  | none => .next s

/-- DEADLINE_EXPIRY (R47): the late flag is set, ALARM is asserted, CRITICAL-LATE is handed. -/
def execDeadlineExpiry (cls : ClassNo) (s : State) : Host.Outcome State Fault Refusal :=
  if due s.time (s.klass cls).deadlineTimer then
    let s := s.setKlass cls { s.klass cls with deadlineTimer := none, late := true }
    .next (({ s with alarm := true }).hand { time := s.time, kind := .criticalLate, cls := some cls })
  else .next s

/-- HOLD_EXPIRY (R40): the class is read and goes to PENDING by a continued entry, or to IDLE. -/
def execHoldExpiry (cls : ClassNo) (s : State) : Host.Outcome State Fault Refusal :=
  if due s.time (s.klass cls).holdTimer then
    .next (s.setKlass cls ((s.klass cls).settleContinued (s.contributors cls))).settle
  else .next s

/-! ### SET-CLASS (R53, R54) -/

/-- The class record's response to new settings (R54). A class made critical in PENDING or HELD starts its deadline; one whose
critical setting is cleared stops it and is no longer late; a running deadline is not moved. -/
def ClassRecord.withSettings (r : ClassRecord) (x : ClassSettings) (now : Time) : ClassRecord :=
  if x.critical && !r.settings.critical then
    if r.state = .pending ∨ r.state = .held then
      { r with settings := x, deadlineTimer := some (now + millis x.deadline), late := false }
    else { r with settings := x }
  else if r.settings.critical && !x.critical then { r with settings := x, deadlineTimer := none, late := false }
  else { r with settings := x }

/-- SET-CLASS, its checks in the order of R53. -/
def setClassOrder (o : Order) (cls : Byte) (x : Option ClassSettings) (s : State) : State :=
  match classNo? cls, x with
  | some c, some x =>
    if (s.klass c).state.inFlight then
      s.reply o .inUse (cls :: (s.klass c).settings.bytes ++ [(s.klass c).state.code, s.noticeOf c])
    else (s.setKlass c ((s.klass c).withSettings x s.time)).replyAndDispatch o .ok (cls :: x.bytes)
  | some c, none => s.reply o .range (cls :: (s.klass c).settings.bytes)
  | none, _ => s.reply o .range (cls :: factorySettings.bytes)

/-- SET_CLASS (R53 to R55). -/
def execSetClass (tag : Byte) (payload : List Byte) (s : State) : Host.Outcome State Fault Refusal :=
  .next (s.takeOrder 0x0A tag payload fun o s =>
    match payload with
    | [cls, mask, critical, d1, d0, l1, l0] => setClassOrder o cls (classSettings? mask critical d1 d0 l1 l0) s
    | _ => s.replyMalformed o payload)

/-! ### GET-CLASS (R56) -/

/-- A remaining time in ms, 0 when absent (R56, R167). -/
def remainingField (now : Time) (t : Option Time) : Half := (t.map (remainingMs now)).getD 0

/-- The presence byte of a GET-CLASS answer (R167). -/
def ClassRecord.presence (r : ClassRecord) : Byte :=
  flagByte r.firstPending.isSome ||| (flagByte r.deadlineTimer.isSome <<< 1) ||| (flagByte r.holdTimer.isSome <<< 2)

/-- The reply fields of GET-CLASS after the class number (R56, R167). -/
def State.classFields (s : State) (c : ClassNo) : List Byte :=
  let r := s.klass c
  r.settings.bytes ++ [r.state.code, flagByte r.late, r.presence] ++ be32 (r.firstPending.getD 0)
    ++ be16 (remainingField s.time r.deadlineTimer) ++ be16 (remainingField s.time r.holdTimer) ++ [s.noticeOf c]
    ++ be32 (sourceSet fun i => (s.members c).contains i) ++ be32 (sourceSet fun i => (s.contributors c).contains i)

/-- GET-CLASS (R56). -/
def getClassOrder (o : Order) (cls : Byte) (s : State) : State :=
  match classNo? cls with
  | some c => s.reply o .ok (cls :: s.classFields c)
  | none => s.reply o .range [cls]

/-- GET_CLASS (R56). -/
def execGetClass (tag : Byte) (payload : List Byte) (s : State) : Host.Outcome State Fault Refusal :=
  .next (s.takeOrder 0x0B tag payload fun o s =>
    match payload with
    | [cls] => getClassOrder o cls s
    | _ => s.replyMalformed o payload)

/-! ### MASK (R43, R44) -/

/-- Every selected class takes the mask setting (R44). -/
def State.setMasks (s : State) (selected : Half) (masked : Bool) : State :=
  { s with classes := Vector.ofFn fun c =>
      if selected.getLsbD c.val then { s.klass c with settings := { (s.klass c).settings with masked := masked } }
      else s.klass c }

/-- The mask settings of all classes as a class set (R44, R167). -/
def State.maskFields (s : State) : List Byte := be16 (classSet fun c => (s.klass c).settings.masked)

/-- MASK (R44): action 1 is SET, 2 is CLEAR. After SET nothing is newly offered, and ATTN is evaluated. -/
def maskOrder (o : Order) (selected : Half) (action : Byte) (s : State) : State :=
  if action = 1 then
    let s := (s.setMasks selected true).evalAttn
    s.reply o .ok s.maskFields
  else if action = 2 then
    let s := s.setMasks selected false
    s.replyAndDispatch o .ok s.maskFields
  else s.reply o .range s.maskFields

/-- A MASK frame arrives. -/
def maskArrival (tag : Byte) (payload : List Byte) (s : State) : State :=
  s.takeOrder 0x0C tag payload fun o s =>
    match payload with
    | [hi, lo, action] => maskOrder o (ofBe16 hi lo) action s
    | _ => s.replyMalformed o payload

/-- MASK_SET (R44). -/
def execMaskSet (tag : Byte) (payload : List Byte) (s : State) : Host.Outcome State Fault Refusal :=
  .next (maskArrival tag payload s)

/-- MASK_CLEAR (R44). -/
def execMaskClear (tag : Byte) (payload : List Byte) (s : State) : Host.Outcome State Fault Refusal :=
  .next (maskArrival tag payload s)

/-! ### CLEAR-ALARM (R51) -/

/-- The reply fields of CLEAR-ALARM (R51, R167). -/
def State.alarmFields (s : State) : List Byte := flagByte s.alarm :: be16 s.lateClasses

/-- Some class is late (R49). -/
def State.anyLate (s : State) : Bool := allClasses.any fun c => (s.klass c).late

/-- CLEAR-ALARM (R51). -/
def clearAlarmOrder (o : Order) (s : State) : State :=
  if s.anyLate then s.reply o .refused s.alarmFields
  else if s.alarm then
    let s := ({ s with alarm := false }).hand { time := s.time, kind := .alarmCleared }
    s.reply o .ok s.alarmFields
  else s.reply o .ok s.alarmFields

/-- CLEAR_ALARM (R51). -/
def execClearAlarm (tag : Byte) (payload : List Byte) (s : State) : Host.Outcome State Fault Refusal :=
  .next (s.takeOrder 0x0D tag payload fun o s =>
    match payload with
    | [] => clearAlarmOrder o s
    | _ => s.replyMalformed o payload)

end Sys2Proof.Machine
end

