-- ==== Sys2Proof/Machine/JournalOrders.lean ====
section
/-! DEFINITION. The Event Journal's event and orders: JOURNAL_ARRIVAL, READ-JOURNAL, TRIM-JOURNAL (06). -/

namespace Sys2Proof.Machine

/-- JOURNAL_ARRIVAL (R103 to R105): the oldest record handed is taken. -/
def execJournalArrival (s : State) : Host.Outcome State Fault Refusal :=
  match s.flight.arrivals with
  | b :: rest => .next { s with journal := s.journal.arrive b, flight := { s.flight with arrivals := rest } }
  | [] => .next s

/-! ### Where a sequence number falls (R102) -/

inductive Place where
  | within
  | atOrPastNext
  | older
  deriving DecidableEq, Repr

/-- The comparison of R102, by distances modulo 2^32. -/
def Journal.place (j : Journal) (g : Seq) : Place :=
  if (g - j.oldest).toNat < j.covered then .within
  else if (g - j.next).toNat < 2147483648 then .atOrPastNext
  else .older

/-! ### READ-JOURNAL (R107, R108) -/

/-- The record's coverage includes `g`. -/
def JournalRecord.covers (r : JournalRecord) (g : Seq) : Bool := decide ((g - r.seq).toNat < r.coverage)

/-- The records that READ-JOURNAL returns, up to 3 (R108). -/
def Journal.readFrom (j : Journal) (g : Seq) : List JournalRecord :=
  match j.place g with
  | .within => (j.records.dropWhile fun r => !r.covers g).take 3
  | .older => j.records.take 3
  | .atOrPastNext => []

/-- The marker and count byte (R167). -/
def readMarker (older : Bool) (count : Nat) : Byte := (flagByte older <<< 7) ||| byteOf count

/-- The reply fields of READ-JOURNAL (R107, R167). -/
def Journal.readFields (j : Journal) (g : Seq) : List Byte :=
  readMarker (decide (j.place g = .older)) (j.readFrom g).length :: be32 j.oldest ++ be32 j.next
    ++ (j.readFrom g).flatMap JournalRecord.bytes

/-- READ_JOURNAL (R107, R108). -/
def execReadJournal (tag : Byte) (payload : List Byte) (s : State) : Host.Outcome State Fault Refusal :=
  .next (s.takeOrder 0x11 tag payload fun o s =>
    match payload with
    | [b3, b2, b1, b0] => s.reply o .ok (s.journal.readFields (ofBe32 b3 b2 b1 b0))
    | _ => s.replyMalformed o payload)

/-! ### TRIM-JOURNAL (R109) -/

/-- The record's whole coverage ends at or before the limit, both measured from the oldest sequence (R109). -/
def JournalRecord.endsBy (r : JournalRecord) (oldest limit : Seq) : Bool :=
  decide ((r.seq - oldest).toNat + r.coverage ≤ (limit - oldest).toNat + 1)

/-- Records are removed from the oldest end for as long as their coverage ends at or before the limit (R109). -/
def Journal.trimTo (j : Journal) (limit : Seq) : Journal :=
  match j.place limit with
  | .within => { j with records := j.records.dropWhile fun r => r.endsBy j.oldest limit }
  | .older | .atOrPastNext => j

/-- The reply fields of TRIM-JOURNAL (R109, R167). -/
def Journal.trimFields (j : Journal) : List Byte := be32 j.oldest ++ be32 j.next ++ [byteOf j.records.length]

/-- TRIM-JOURNAL (R109). -/
def trimOrder (o : Order) (limit : Seq) (s : State) : State :=
  if s.journal.place limit = .atOrPastNext then s.reply o .range s.journal.trimFields
  else ({ s with journal := s.journal.trimTo limit }).reply o .ok (s.journal.trimTo limit).trimFields

/-- TRIM_JOURNAL (R109). -/
def execTrimJournal (tag : Byte) (payload : List Byte) (s : State) : Host.Outcome State Fault Refusal :=
  .next (s.takeOrder 0x12 tag payload fun o s =>
    match payload with
    | [b3, b2, b1, b0] => trimOrder o (ofBe32 b3 b2 b1 b0) s
    | _ => s.replyMalformed o payload)

end Sys2Proof.Machine
end

