-- ==== Sys2Proof/Machine/Notices.lean ====
section
/-! DEFINITION. The Notice Dispatcher's orders and expiries: CLAIM, RELEASE, RETURN, ANSWER_TIMER_EXPIRY, SERVICE_TIMER_EXPIRY (04). -/

namespace Sys2Proof.Machine

/-- An entry of the table is replaced by what `f` makes of it. -/
def State.updateEntry (s : State) (n : Byte) (f : NoticeEntry → NoticeEntry) : State :=
  { s with dispatcher := s.dispatcher.update n f }

/-- CLAIM, RELEASE and RETURN: the checks of R72, then `take` on an entry whose state admits the order. A loss already reported is
taken first (R81, R139; log 12). -/
def settleOrder (o : Order) (n : Byte) (admits : EntryState → Bool) (take : NoticeEntry → State → State) (s : State) : State :=
  let s := s.takeLoss
  if s.session.up then
    match s.entry? n with
    | some e =>
      if admits e.state then take e s else s.reply o .wrongState [n, byteOf e.cls.val, e.state.code]
    | none => s.reply o .notFound [n]
  else s.reply o .noSession [n]

/-! ### CLAIM (R73, R74) -/

/-- The claim list: the members that contribute at the order's arrival, with their counts (R74). -/
def State.claimListOf (s : State) (c : ClassNo) : List ClaimItem :=
  (s.contributors c).map fun i => { source := i, count := (s.src i).count }

/-- The sum of the counts of a claim list (R74). -/
def claimSum (l : List ClaimItem) : Nat := (l.map fun x => x.count.toNat).sum

/-- A source record cleared at a claim: an edge source loses latch and count, a level source its count (R12). -/
def SourceRecord.claimed (r : SourceRecord) (m : SourceMode) : SourceRecord :=
  if m.isEdge then { r with latch := false, count := 0 } else { r with count := 0 }

/-- The sources of a claim list are cleared, and the vanished contribution of an edge source is reported (R12). -/
def State.clearClaimed (s : State) (c : ClassNo) (l : List ClaimItem) : State :=
  { s with
    sources := Vector.ofFn (fun i =>
      if l.any fun x => x.source == i then (s.src i).claimed (s.steer i).mode else s.src i)
    flight := { s.flight with
      reports := s.flight.reports ++ (l.filter fun x => (s.steer x.source).mode.isEdge).map
        fun x => { source := x.source, cls := c, contributes := false } } }

/-- The grants asked for at a claim: one for each listed source that is paired with a line (R73, R91). No rule orders the requests of
one claim: they are handed in the order of the claim list, by source number, which is the model's choice (log 35). -/
def State.claimAsks (s : State) (n : Byte) (l : List ClaimItem) : List GrantAsk :=
  (l.filter fun x => (s.pairedLine x.source).isSome).map fun x => .grant x.source n

/-- An entry claimed at `now` with the claim list and the class's service limit (R73). -/
def NoticeEntry.claimed (e : NoticeEntry) (l : List ClaimItem) (now : Time) (limit : Half) : NoticeEntry :=
  { e with
    state := .inService, claimList := some l, claimTime := some now, answerTimer := none
    serviceTimer := if limit = 0 then none else some (now + millis limit) }

/-- A CLAIM of a NOTIFIED entry (R73). -/
def claimTaken (o : Order) (e : NoticeEntry) (s : State) : State :=
  let c := e.cls
  let n := e.number
  let l := s.claimListOf c
  let s := s.updateEntry n fun e => e.claimed l s.time (s.klass c).settings.limit
  let s := { s with dispatcher := s.dispatcher.dropFrames n }
  let s := s.clearClaimed c l
  let s := s.ask (s.claimAsks n l)
  let s := s.setKlass c { s.klass c with state := .inService, deadlineTimer := none, late := false }
  let s := s.handNotice .claim c n (some (BitVec.ofNat 32 (claimSum l)))
  s.evalAttn.reply o .ok ([n, byteOf c.val] ++ be32 s.time ++ claimListBytes l)

/-- CLAIM (R72 to R74). -/
def execClaim (tag : Byte) (payload : List Byte) (s : State) : Host.Outcome State Fault Refusal :=
  .next (s.takeOrder 0x05 tag payload fun o s =>
    match payload with
    | [n] => settleOrder o n (fun x => decide (x = .notified)) (claimTaken o) s
    | _ => s.replyMalformed o payload)

/-! ### RELEASE (R75, R76) -/

/-- A RELEASE of an IN-SERVICE entry (R75), or of an EXPIRED one, whose grants ended at its expiry (R76). -/
def releaseTaken (o : Order) (e : NoticeEntry) (s : State) : State :=
  let c := e.cls
  let n := e.number
  let late := decide (e.state = .expired)
  let s := if late then s else s.ask [.finish n]
  let s := s.removeEntry n
  let s := s.handNotice (if late then .releaseLate else .release) c n none
  let s := s.setKlass c ((s.klass c).settleFresh s.time (s.contributors c))
  s.replyAndDispatch o (if late then .late else .ok) [n, byteOf c.val]

/-- RELEASE (R72, R75, R76). -/
def execRelease (tag : Byte) (payload : List Byte) (s : State) : Host.Outcome State Fault Refusal :=
  .next (s.takeOrder 0x06 tag payload fun o s =>
    match payload with
    | [n] => settleOrder o n (fun x => decide (x ≠ .notified)) (releaseTaken o) s
    | _ => s.replyMalformed o payload)

/-! ### RETURN (R77) -/

/-- The class of a returned notice: HELD for the hold, or read at once when the hold is 0 (R37, R40). -/
def ClassRecord.returned (r : ClassRecord) (hold : Half) (now : Time) (found : List SourceNo) : ClassRecord :=
  if hold = 0 then r.settleContinued found else { r with state := .held, holdTimer := some (now + millis hold) }

/-- A RETURN of a NOTIFIED entry (R77). -/
def returnTaken (o : Order) (hold : Half) (e : NoticeEntry) (s : State) : State :=
  let c := e.cls
  let n := e.number
  let s := s.removeEntry n
  let s := s.handNotice .returned c n (some (hold.zeroExtend 32))
  let s := s.setKlass c ((s.klass c).returned hold s.time (s.contributors c))
  s.replyAndDispatch o .ok [n, byteOf c.val]

/-- RETURN (R72, R77). -/
def execReturnNotice (tag : Byte) (payload : List Byte) (s : State) : Host.Outcome State Fault Refusal :=
  .next (s.takeOrder 0x07 tag payload fun o s =>
    match payload with
    | [n, hi, lo] => settleOrder o n (fun x => decide (x = .notified)) (returnTaken o (ofBe16 hi lo)) s
    | _ => s.replyMalformed o payload)

/-! ### Expiries (R70, R79) -/

/-- A frame of an entry joins the notice send list (R66). -/
def State.joinFrame (s : State) (f : NoticeFrame) : State := { s with dispatcher := s.dispatcher.join f }

/-- The expiry of an entry's answer timer: a repeat, or the loss of the session once the retries are exhausted
(R70, R71). -/
def State.answerExpired (s : State) (e : NoticeEntry) : State :=
  let s := s.updateEntry e.number fun e => { e with answerTimer := none }
  if e.sent ≤ s.session.retryLimit.toNat then
    (s.joinFrame { notice := e.number, cls := e.cls, kind := .again, payload := noticePayload e true }).transmit
  else { s with flight := { s.flight with loss := some { cls := e.cls, notice := e.number } } }

/-- ANSWER_TIMER_EXPIRY (R70). A loss already reported is taken first (R85; log 12). -/
def execAnswerTimerExpiry (notice : Byte) (s : State) : Host.Outcome State Fault Refusal :=
  let s := s.takeLoss
  match s.entry? notice with
  | some e => if due s.time e.answerTimer then .next (s.answerExpired e) else .next s
  | none => .next s

/-- The expiry of an entry's service timer (R79). -/
def State.serviceExpired (s : State) (e : NoticeEntry) : State :=
  let c := e.cls
  let n := e.number
  let s := s.updateEntry n fun e => { e with state := .expired, serviceTimer := none }
  let s := s.setKlass c { s.klass c with state := .expired }
  let s := s.ask [.finish n]
  let s := s.joinFrame { notice := n, cls := c, kind := .overdue, payload := overduePayload n c (e.claimTime.getD 0) }
  let s := s.handNotice .expire c n none
  s.evalAttn.transmit

/-- SERVICE_TIMER_EXPIRY (R79). -/
def execServiceTimerExpiry (notice : Byte) (s : State) : Host.Outcome State Fault Refusal :=
  match s.entry? notice with
  | some e => if due s.time e.serviceTimer then .next (s.serviceExpired e) else .next s
  | none => .next s

end Sys2Proof.Machine
end

