-- ==== Sys2Proof/Machine/Grants.lean ====
section
/-! DEFINITION. The Grant Line Unit's events and order: GRANT_REQUEST, GRANT_END_REQUEST, END_ON_WITHDRAW, GUARD_EXPIRY, PAIR-GRANT
(05). -/

namespace Sys2Proof.Machine

/-! ### Requests (R91, R92) -/

/-- The oldest request leaves the list. -/
def State.popAsk (s : State) : State := { s with flight := { s.flight with asks := s.flight.asks.tail } }

/-- GRANT_REQUEST (R91): the oldest request handed, when it is one to grant. Requests are taken in the order handed (R73). -/
def execGrantRequest (s : State) : Host.Outcome State Fault Refusal :=
  match s.flight.asks.head? with
  | some (.grant i n) => .next (s.popAsk.takeGrant i n)
  | some (.finish _) => .next s
  | none => .next s

/-- GRANT_END_REQUEST (R92): the oldest request handed, when it is one to end. -/
def execGrantEndRequest (s : State) : Host.Outcome State Fault Refusal :=
  match s.flight.asks.head? with
  | some (.finish n) => .next (s.popAsk.takeFinish n)
  | some (.grant _ _) => .next s
  | none => .next s

/-! ### End-on-withdraw (R94) -/

/-- The Grant Line Unit takes a withdrawal (R94). -/
def State.takeWithdrawal (s : State) (i : SourceNo) : State :=
  match s.pairedLine i with
  | some g =>
    if s.withdrawApplies i g && (s.line g).holds then (s.setLine g ((s.line g).finish s.time)).handGrantEnd i g else s
  | none => s

/-- END_ON_WITHDRAW: a withdrawal of the source that has been told and not yet taken. -/
def execEndOnWithdraw (source : SourceNo) (s : State) : Host.Outcome State Fault Refusal :=
  if s.flight.withdrawals.contains source then
    .next (({ s with flight := { s.flight with withdrawals := s.flight.withdrawals.erase source } }).takeWithdrawal source)
  else .next s

/-! ### Guard expiry (R93) -/

/-- The line at the end of its guard (R93). -/
def LineRecord.guardEnds (r : LineRecord) : LineRecord :=
  if r.waiting then { r with state := .granted, waiting := false, guardTimer := none }
  else { r with state := if r.pairing.source.isSome then .ready else .unpaired, guardTimer := none }

/-- GUARD_EXPIRY (R93). -/
def execGuardExpiry (line : LineNo) (s : State) : Host.Outcome State Fault Refusal :=
  if due s.time (s.line line).guardTimer then .next (s.setLine line (s.line line).guardEnds) else .next s

/-! ### PAIR-GRANT (R89, R90) -/

/-- The line with a new pairing (R90): out of a guard its state follows the paired source. -/
def LineRecord.repair (r : LineRecord) (p : Pairing) : LineRecord :=
  if r.state = .guarding then { r with pairing := p }
  else { r with pairing := p, state := if p.source.isSome then .ready else .unpaired }

/-- Another line than `g` that holds the source proposed (R89, check 3). -/
def State.otherHolder (s : State) (g : LineNo) (p : Pairing) : Option LineNo :=
  p.source.bind fun i => allLines.find? fun h => h != g && (s.line h).pairing.source == some i

/-- PAIR-GRANT, its checks in the order of R89. Requests already handed are taken first, so that the line is read as R91 and R92
leave it (log 13). -/
def pairGrantOrder (o : Order) (line : Byte) (p : Option Pairing) (s : State) : State :=
  let s := s.takeAsks
  match lineNo? line, p with
  | some g, some p =>
    if (s.line g).holds then s.reply o .inUse (line :: (s.line g).bytes)
    else
      match s.otherHolder g p with
      | some h => s.reply o .conflict (line :: (s.line g).bytes ++ [byteOf h.val])
      | none => (s.setLine g ((s.line g).repair p)).reply o .ok (line :: ((s.line g).repair p).bytes)
  | some g, none => s.reply o .range (line :: (s.line g).bytes)
  | none, _ => s.reply o .range (line :: (freshLine factoryPairing).bytes)

/-- PAIR_GRANT (R89, R90). -/
def execPairGrant (tag : Byte) (payload : List Byte) (s : State) : Host.Outcome State Fault Refusal :=
  .next (s.takeOrder 0x0E tag payload fun o s =>
    match payload with
    | [line, source, polarity, guardTime, withdraw] =>
      pairGrantOrder o line (pairing? source polarity guardTime withdraw) s
    | _ => s.replyMalformed o payload)

end Sys2Proof.Machine
end

