-- ==== Sys2Proof/Machine/Profiles.lean ====
section
/-! DEFINITION. The Profile Store's orders and completions: SAVE-PROFILE, LOAD-PROFILE, SET-BOOT, GET-PROFILES, RESTART (09). -/

namespace Sys2Proof.Machine

/-- A profile operation is in progress (R151). -/
def Operation.busy : Operation → Bool
  | .none => false
  | .save _ _ _ _ => true
  | .setBoot _ _ _ => true

/-- The generation of a slot, 0 unless VALID (R148). -/
def Slot.generation : Slot → BitVec 32
  | .valid g _ => g
  | .empty => 0
  | .invalid => 0

/-- Some VALID slot holds the generation (R153). -/
def Store.holdsGeneration (t : Store) (g : BitVec 32) : Bool :=
  allSlots.any fun n =>
    match t.slot n with
    | .valid h _ => h == g
    | .empty => false
    | .invalid => false

/-- The generation that follows, 1 following 4,294,967,295 (R153). -/
def nextGeneration (g : BitVec 32) : BitVec 32 := if g = 0xFFFFFFFF then 1 else g + 1

/-- The generation a save takes: the next that no VALID slot holds (R153). With four slots, four more rises reach it. -/
def Store.freeGeneration (t : Store) : Nat → BitVec 32 → BitVec 32
  | 0, g => g
  | fuel + 1, g => if t.holdsGeneration g then t.freeGeneration fuel (nextGeneration g) else g

/-- The length of a save: 25 to 40 ms, free within those bounds (R152; log 8). -/
def saveLength (n : Nat) : Time := BitVec.ofNat 32 (25000 + Config.saveTime n % 15001)

/-- The length of a designation write: 4 to 8 ms, free within those bounds (R154; log 8). -/
def designationLength (n : Nat) : Time := BitVec.ofNat 32 (4000 + Config.designationTime n % 4001)

/-! ### SAVE-PROFILE (R152, R153) -/

/-- An accepted SAVE-PROFILE (R152): the snapshot, the slot INVALID, the write begun. No answer is built. -/
def State.beginSave (s : State) (o : Order) (n : SlotNo) : State :=
  { s with
    store := { s.store.setSlot n .invalid with
      operation := .save n s.snapshot o (s.time + saveLength s.choices) }
    choices := s.choices + 1 }

/-- SAVE-PROFILE, its checks in the order of R152. -/
def saveOrder (o : Order) (slot : Byte) (s : State) : State :=
  match slotNo? slot with
  | some n =>
    if s.store.operation.busy then s.reply o .busy (slot :: s.store.operation.bytes) else s.beginSave o n
  | none => s.reply o .range [slot]

/-- SAVE_PROFILE (R152). -/
def execSaveProfile (tag : Byte) (payload : List Byte) (s : State) : Host.Outcome State Fault Refusal :=
  .next (s.takeOrder 0x13 tag payload fun o s =>
    match payload with
    | [slot] => saveOrder o slot s
    | _ => s.replyMalformed o payload)

/-- PROFILE_SAVE_COMPLETION (R153). -/
def execProfileSaveCompletion (s : State) : Host.Outcome State Fault Refusal :=
  match s.store.operation with
  | .save n p o t =>
    if reached s.time t then
      let g := s.store.freeGeneration 4 (nextGeneration s.store.generation)
      let s := { s with store := { s.store.setSlot n (.valid g p) with generation := g, operation := .none } }
      .next ((s.handCount .profileSaved (BitVec.ofNat 32 n.val)).reply o .ok (byteOf n.val :: be32 g))
    else .next s
  | .setBoot _ _ _ => .next s
  | .none => .next s

/-! ### SET-BOOT (R154) -/

/-- SET-BOOT, its checks in the order of R154. While the write runs the designation reads none. -/
def setBootOrder (o : Order) (designation : Byte) (s : State) : State :=
  match orNone? slotNo? designation with
  | some d =>
    if s.store.operation.busy then s.reply o .busy (numberByte s.store.boot :: s.store.operation.bytes)
    else
      { s with
        store := { s.store with boot := none, operation := .setBoot d o (s.time + designationLength s.choices) }
        choices := s.choices + 1 }
  | none => s.reply o .range [designation]

/-- SET_BOOT (R154). -/
def execSetBoot (tag : Byte) (payload : List Byte) (s : State) : Host.Outcome State Fault Refusal :=
  .next (s.takeOrder 0x15 tag payload fun o s =>
    match payload with
    | [d] => setBootOrder o d s
    | _ => s.replyMalformed o payload)

/-- SET_BOOT_COMPLETION (R154). -/
def execSetBootCompletion (s : State) : Host.Outcome State Fault Refusal :=
  match s.store.operation with
  | .setBoot d o t =>
    if reached s.time t then
      .next (({ s with store := { s.store with boot := d, operation := .none } }).reply o .ok [numberByte d])
    else .next s
  | .save _ _ _ _ => .next s
  | .none => .next s

/-! ### LOAD-PROFILE (R155, R156) -/

/-- An accepted LOAD-PROFILE before its answer (R150, R156): requests already handed to the Grant Line Unit are taken first
(log 13), the profile is put in force, the reports of the old steering are superseded (log 14), PROFILE-LOADED is handed. -/
def State.loadProfile (s : State) (n : SlotNo) (p : Profile) : State :=
  let s := (s.takeAsks.loadTables p).loadClasses p
  let s := { s with flight := { s.flight with reports := [] } }
  s.handCount .profileLoaded (BitVec.ofNat 32 n.val)

/-- LOAD-PROFILE, its checks in the order of R155. The answer joins the queue, and is taken if the transmitter is idle, before the
arbiter run queues any NOTICE frame (R156 step 3). -/
def loadOrder (o : Order) (slot : Byte) (s : State) : State :=
  match slotNo? slot with
  | none => s.reply o .range [slot]
  | some n =>
    if s.store.operation.busy then s.reply o .busy s.store.operation.bytes
    else
      match s.store.slot n with
      | .empty => s.reply o .empty [slot]
      | .invalid => s.reply o .damaged [slot]
      | .valid g p =>
        if s.dispatcher.entries = [] then ((s.loadProfile n p).reply o .ok (slot :: be32 g)).settle
        else s.reply o .inUse [byteOf s.dispatcher.entries.length]

/-- LOAD_PROFILE (R155, R156). -/
def execLoadProfile (tag : Byte) (payload : List Byte) (s : State) : Host.Outcome State Fault Refusal :=
  .next (s.takeOrder 0x14 tag payload fun o s =>
    match payload with
    | [slot] => loadOrder o slot s
    | _ => s.replyMalformed o payload)

/-! ### GET-PROFILES and RESTART (R157, R159) -/

/-- The reply fields of GET-PROFILES (R157, R167): 27 bytes. -/
def Store.profileFields (t : Store) : List Byte :=
  (allSlots.map fun n => (t.slot n).code) ++ (allSlots.flatMap fun n => be32 (t.slot n).generation) ++ be32 t.generation
    ++ [numberByte t.boot] ++ t.operation.bytes

/-- GET_PROFILES (R157). -/
def execGetProfiles (tag : Byte) (payload : List Byte) (s : State) : Host.Outcome State Fault Refusal :=
  .next (s.takeOrder 0x16 tag payload fun o s =>
    match payload with
    | [] => s.reply o .ok s.store.profileFields
    | _ => s.replyMalformed o payload)

/-- RESTART (R159): answered with the operation in progress; the reset follows at the completion of the answer's transmission
(R134). -/
def execRestart (tag : Byte) (payload : List Byte) (s : State) : Host.Outcome State Fault Refusal :=
  .next (s.takeOrder 0x17 tag payload fun o s =>
    match payload with
    | [] => s.reply o .ok s.store.operation.bytes
    | _ => s.replyMalformed o payload)

end Sys2Proof.Machine
end

