-- ==== Sys2Proof/Machine/Sessions.lean ====
section
/-! DEFINITION. The Session Unit's orders and event: OPEN, CLOSE, SESSION_LOST (08). -/

namespace Sys2Proof.Machine

/-- The session parameters of an OPEN; `none` when one is out of range (R136, check 2). -/
structure SessionParams where
  credit : Byte
  answerTimeout : Byte
  retryLimit : Byte
  nesting : Nesting
  deriving DecidableEq, Repr

def sessionParams? (credit timeout retry nesting : Byte) : Option SessionParams :=
  if credit = 0 ∨ 8 < credit.toNat ∨ timeout = 0 ∨ 7 < retry.toNat then none
  else (nesting? nesting).map fun m => { credit := credit, answerTimeout := timeout, retryLimit := retry, nesting := m }

/-- The reply fields of every OPEN answer (R136, R167). -/
def Session.openFields (x : Session) : List Byte :=
  [flagByte x.up, x.endCause.code, x.credit, x.answerTimeout, x.retryLimit, x.nesting.code]

/-- Steps 1 to 4 of R137: the parameters, the session UP, the numbering from 1, SESSION-OPEN. -/
def State.openWith (s : State) (p : SessionParams) : State :=
  ({ s with
    session := { s.session with
      up := true, credit := p.credit, answerTimeout := p.answerTimeout, retryLimit := p.retryLimit, nesting := p.nesting }
    dispatcher := { s.dispatcher with nextNumber := 1 } }).handCount .sessionOpen (p.credit.zeroExtend 32)

/-- OPEN (R136, R137). Its answer joins the queue, and is taken if the transmitter is idle, before the arbiter run queues any
NOTICE frame. A loss already reported is taken first (R142; log 12). -/
def openOrder (o : Order) (p : Option SessionParams) (s : State) : State :=
  let s := s.takeLoss
  if s.session.up then s.reply o .wrongState s.session.openFields
  else
    match p with
    | none => s.reply o .range s.session.openFields
    | some p =>
      let s := s.openWith p
      (s.reply o .ok s.session.openFields).evalAttn.dispatch.transmit

/-- OPEN (R136, R137). -/
def execOpenSession (tag : Byte) (payload : List Byte) (s : State) : Host.Outcome State Fault Refusal :=
  .next (s.takeOrder 0x03 tag payload fun o s =>
    match payload with
    | [credit, timeout, retry, nesting] => openOrder o (sessionParams? credit timeout retry nesting) s
    | _ => s.replyMalformed o payload)

/-- CLOSE (R138). The arbiter run after a teardown finds the session DOWN and creates nothing (R140). A loss already reported is
taken first (R142; log 12). -/
def closeOrder (o : Order) (s : State) : State :=
  let s := s.takeLoss
  if s.session.up then
    let count := s.dispatcher.entries.length
    let s := s.teardown .closed .sessionClose none none
    s.reply o .ok [flagByte s.session.up, s.session.endCause.code, byteOf count]
  else s.reply o .wrongState [flagByte s.session.up, s.session.endCause.code, 0]

/-- CLOSE (R138). -/
def execCloseSession (tag : Byte) (payload : List Byte) (s : State) : Host.Outcome State Fault Refusal :=
  .next (s.takeOrder 0x04 tag payload fun o s =>
    match payload with
    | [] => closeOrder o s
    | _ => s.replyMalformed o payload)

/-- SESSION_LOST (R139): the loss reported is taken. -/
def execSessionLost (s : State) : Host.Outcome State Fault Refusal := .next s.takeLoss

end Sys2Proof.Machine
end

