-- ==== Sys2Proof/Machine/SourceLines.lean ====
section
/-! DEFINITION. The Source Line Unit's events and orders: RAW_LEVEL_CHANGE, QUALIFICATION_TIMER_EXPIRY, FORCE, GET-LINES (01). -/

namespace Sys2Proof.Machine

/-- RAW_LEVEL_CHANGE (R4). A level that the line already has is no change. In reset the line is seen and the change is not taken
(R3). Away from the qualified level the timer starts, or with a qualification of 0 the change is a qualified transition at once;
back to it a running timer stops. A running timer keeps its expiry time whatever the qualification is now (R5). -/
def State.rawChange (s : State) (i : SourceNo) (level : Level) : State :=
  let r := s.src i
  let seen : SourceRecord := { r with raw := level }
  if r.raw = level then s
  else if s.power.inReset then s.setSrc i seen
  else
    match r.timer with
    | some _ => s.setSrc i (if level = r.qualified then { seen with timer := none } else seen)
    | none =>
      if level = r.qualified then s.setSrc i seen
      else if (s.steer i).qualification = 0 then (s.setSrc i seen).transition i level
      else
        s.setSrc i { seen with
          timer := some { target := level, expiry := s.time + qualLength (s.steer i).qualification } }

/-- RAW_LEVEL_CHANGE of a source line (R4), or of a rate strap: the pin takes the level, and the rate in use stays until the part next
leaves reset (R115; log 3). -/
def execRawLevelChange (pin : LevelPin) (level : Level) (s : State) : Host.Outcome State Fault Refusal :=
  match pin with
  | .source i => .next (s.rawChange i level)
  | .rateB => .next { s with link := { s.link with rateB := decide (level = .high) } }
  | .rateA => .next { s with link := { s.link with rateA := decide (level = .high) } }

/-- QUALIFICATION_TIMER_EXPIRY (R4): the qualified level takes the timer's target, and the transition is taken under the mode in
force now (R5, R6). A timer that has not run its length does not expire (R2). -/
def execQualificationTimerExpiry (source : SourceNo) (s : State) : Host.Outcome State Fault Refusal :=
  match (s.src source).timer with
  | some t =>
    if reached s.time t.expiry then .next ((s.setSrc source { s.src source with timer := none }).transition source t.target)
    else .next s
  | none => .next s

/-! ### FORCE (R14, R15) -/

/-- The three actions of FORCE (R14). -/
inductive ForceAction where
  | pulse
  | on
  | off
  deriving DecidableEq, Repr

def forceAction? (b : Byte) : Option ForceAction :=
  if b = 1 then some .pulse else if b = 2 then some .on else if b = 3 then some .off else none

/-- The action fits the mode: PULSE an edge mode, ON and OFF a level mode (R14, check 3). -/
def ForceAction.fits (a : ForceAction) (m : SourceMode) : Bool :=
  match a with
  | .pulse => m.isEdge
  | .on | .off => m.isLevel

/-- An accepted FORCE (R15). -/
def State.force (s : State) (i : SourceNo) (a : ForceAction) : State :=
  match a with
  | .pulse => s.assertEvent i true
  | .on => (s.setSrc i { s.src i with forced := true }).deriveLive i true
  | .off => (s.setSrc i { s.src i with forced := false }).deriveLive i true

/-- The state byte of a FORCE answer (R167). -/
def State.forceStateByte (s : State) (i : SourceNo) : Byte :=
  flagByte (decide ((s.src i).qualified = .high)) ||| (flagByte (s.src i).forced <<< 1) ||| (flagByte (s.contributes i) <<< 2)

/-- The reply fields of every FORCE answer (R14, R167); a number beyond S31 has no record. -/
def State.forceFields (s : State) (source : Byte) : List Byte :=
  match sourceNo? source with
  | some i => [source, (s.steer i).mode.code, s.forceStateByte i, (s.src i).count]
  | none => [source, SourceMode.off.code, 0, 0]

/-- FORCE, its checks in the order of R14. -/
def forceOrder (o : Order) (source action : Byte) (s : State) : State :=
  match sourceNo? source, forceAction? action with
  | some i, some a =>
    if (s.steer i).mode = .off then s.reply o .wrongState (s.forceFields source)
    else if a.fits (s.steer i).mode then (s.force i a).reply o .ok ((s.force i a).forceFields source)
    else s.reply o .range (s.forceFields source)
  | _, _ => s.reply o .range (s.forceFields source)

/-- A FORCE frame arrives. -/
def forceArrival (tag : Byte) (payload : List Byte) (s : State) : State :=
  s.takeOrder 0x10 tag payload fun o s =>
    match payload with
    | [source, action] => forceOrder o source action s
    | _ => s.replyMalformed o payload

/-- FORCE_PULSE (R14, R15). -/
def execForcePulse (tag : Byte) (payload : List Byte) (s : State) : Host.Outcome State Fault Refusal :=
  .next (forceArrival tag payload s)

/-- FORCE_ON (R14, R15). -/
def execForceOn (tag : Byte) (payload : List Byte) (s : State) : Host.Outcome State Fault Refusal :=
  .next (forceArrival tag payload s)

/-- FORCE_OFF (R14, R15). -/
def execForceOff (tag : Byte) (payload : List Byte) (s : State) : Host.Outcome State Fault Refusal :=
  .next (forceArrival tag payload s)

/-! ### GET-LINES (R16) -/

/-- The reply fields of GET-LINES (R16, R167): 40 bytes. -/
def State.linesFields (s : State) : List Byte :=
  be32 (sourceSet fun i => decide ((s.src i).qualified = .high)) ++ be32 (sourceSet s.contributes)
    ++ allSources.map fun i => (s.src i).count

/-- GET_LINES (R16). -/
def execGetLines (tag : Byte) (payload : List Byte) (s : State) : Host.Outcome State Fault Refusal :=
  .next (s.takeOrder 0x0F tag payload fun o s =>
    match payload with
    | [] => s.reply o .ok s.linesFields
    | _ => s.replyMalformed o payload)

end Sys2Proof.Machine
end

