-- ==== Sys2Proof/Machine/Steering.lean ====
section
/-! DEFINITION. The Steering Table's orders: SET-STEER and GET-STEER (02). -/

namespace Sys2Proof.Machine

/-- The members of a class other than the source in the order (R21). -/
def State.othersIn (s : State) (i : SourceNo) (c : ClassNo) : List SourceNo := (s.members c).filter fun j => j != i

/-- The conflicting member of the target class, if the proposed entry would break the sharing rule (R21). -/
def State.conflict (s : State) (i : SourceNo) (e : SteerEntry) : Option (ClassNo × SourceNo) :=
  match e.cls with
  | none => none
  | some c =>
    (if e.mode.isEdge then (s.othersIn i c).head?
     else (s.othersIn i c).find? fun j => (s.steer j).mode.isEdge).map fun j => (c, j)

/-- The source's current class, when it is in NOTIFIED, IN-SERVICE or EXPIRED (R20, check 2). -/
def State.steeredInUse (s : State) (i : SourceNo) : Option ClassNo :=
  (s.steer i).cls.filter fun c => (s.klass c).state.inFlight

/-- The reports of a source that the Class Engine has not taken are superseded (log 14). -/
def State.dropReports (s : State) (i : SourceNo) : State :=
  { s with flight := { s.flight with reports := s.flight.reports.filter fun r => r.source != i } }

/-- The entry is replaced, and the dynamic record cleared when mode or class changes (R23). -/
def State.replaceEntry (s : State) (i : SourceNo) (e : SteerEntry) : State :=
  if (s.steer i).mode = e.mode ∧ (s.steer i).cls = e.cls then s.setSteer i e
  else ((s.setSteer i e).setSrc i ((s.src i).cleared e.mode)).dropReports i

/-- Class NONE is not re-evaluated (R24). -/
def State.reevaluateSteered (s : State) (c : Option ClassNo) : State :=
  match c with
  | some c => s.reevaluate c
  | none => s

/-- An accepted SET-STEER: the replacement of R23, then the re-evaluation of the old class and, when it differs, the new (R24). -/
def State.steerTo (s : State) (i : SourceNo) (e : SteerEntry) : State :=
  let old := (s.steer i).cls
  let s := (s.replaceEntry i e).reevaluateSteered old
  if e.cls = old then s else s.reevaluateSteered e.cls

/-- SET-STEER, its checks in the order of R20, its answers by R22. Before an accepted order, requests already handed to the Grant Line
Unit are taken: so a grant is judged under the mode in which it was asked for, and no line is GRANTED or waiting for the source
(R26; log 13). -/
def setSteerOrder (o : Order) (source mode cls qual journal : Byte) (s : State) : State :=
  match sourceNo? source, steerEntry? mode cls qual journal with
  | some i, some e =>
    match s.steeredInUse i with
    | some c => s.reply o .inUse (source :: (s.steer i).bytes ++ [byteOf c.val, (s.klass c).state.code])
    | none =>
      match s.conflict i e with
      | some (c, j) => s.reply o .conflict (source :: (s.steer i).bytes ++ [byteOf c.val, byteOf j.val])
      | none => (s.takeAsks.steerTo i e).replyAndDispatch o .ok (source :: e.bytes)
  | some i, none => s.reply o .range (source :: (s.steer i).bytes)
  | none, _ => s.reply o .range (source :: factoryEntry.bytes)

/-- SET_STEER (R20 to R29). -/
def execSetSteer (tag : Byte) (payload : List Byte) (s : State) : Host.Outcome State Fault Refusal :=
  .next (s.takeOrder 0x08 tag payload fun o s =>
    match payload with
    | [source, mode, cls, qual, journal] => setSteerOrder o source mode cls qual journal s
    | _ => s.replyMalformed o payload)

/-- GET-STEER (R30). -/
def getSteerOrder (o : Order) (source : Byte) (s : State) : State :=
  match sourceNo? source with
  | some i => s.reply o .ok (source :: (s.steer i).bytes ++ [numberByte (s.pairedLine i)])
  | none => s.reply o .range [source]

/-- GET_STEER (R30). -/
def execGetSteer (tag : Byte) (payload : List Byte) (s : State) : Host.Outcome State Fault Refusal :=
  .next (s.takeOrder 0x09 tag payload fun o s =>
    match payload with
    | [source] => getSteerOrder o source s
    | _ => s.replyMalformed o payload)

end Sys2Proof.Machine
end

