-- ==== Sys2Proof/Machine/LinkEvents.lean ====
section
/-! DEFINITION. The Link Controller's orders and events: STATUS, ECHO, UNKNOWN_KIND, FRAME_FAILURE, INTER_BYTE_GAP_EXPIRY,
BYTE_RECEIVED, TRANSMISSION_COMPLETION (07). -/

namespace Sys2Proof.Machine

/-! ### STATUS, ECHO, UNKNOWN (R125, R132, R133) -/

/-- The reply fields of STATUS (R132, R167): 26 bytes. -/
def State.statusFields (s : State) : List Byte :=
  [s.store.resetCause.code, s.store.bootOutcome.code, flagByte s.session.up, s.session.endCause.code, s.session.credit,
   s.session.answerTimeout, s.session.retryLimit, s.session.nesting.code, byteOf s.dispatcher.entries.length, flagByte s.alarm]
    ++ be16 s.lateClasses ++ [byteOf s.journal.records.length] ++ be32 s.journal.oldest ++ be32 s.journal.next
    ++ be16 s.link.frameErrors ++ s.store.operation.bytes ++ [numberByte s.store.boot]

/-- STATUS (R132). -/
def execStatus (tag : Byte) (payload : List Byte) (s : State) : Host.Outcome State Fault Refusal :=
  .next (s.takeOrder 0x01 tag payload fun o s =>
    match payload with
    | [] => s.reply o .ok s.statusFields
    | _ => s.replyMalformed o payload)

/-- ECHO (R133): the payload and the timestamp; 0 to 54 bytes (R121). -/
def execEcho (tag : Byte) (payload : List Byte) (s : State) : Host.Outcome State Fault Refusal :=
  .next (s.takeOrder 0x02 tag payload fun o s =>
    if payload.length ≤ 54 then s.reply o .ok (payload ++ be32 s.time) else s.replyMalformed o payload)

/-- A frame whose kind is not an order code is answered UNKNOWN with the kind received (R121, R125). -/
def unknownArrival (kind tag : Byte) (payload : List Byte) (s : State) : State :=
  s.takeOrder kind tag payload fun o s => s.reply o .unknown [kind]

/-! ### A frame is handed to the block that owns its order (R121) -/

/-- Order admission of a frame that passed its check, by its kind code (R121, R164). -/
def frameArrival (kind tag : Byte) (payload : List Byte) (s : State) : Host.Outcome State Fault Refusal :=
  match kind.toNat with
  | 0x01 => execStatus tag payload s
  | 0x02 => execEcho tag payload s
  | 0x03 => execOpenSession tag payload s
  | 0x04 => execCloseSession tag payload s
  | 0x05 => execClaim tag payload s
  | 0x06 => execRelease tag payload s
  | 0x07 => execReturnNotice tag payload s
  | 0x08 => execSetSteer tag payload s
  | 0x09 => execGetSteer tag payload s
  | 0x0A => execSetClass tag payload s
  | 0x0B => execGetClass tag payload s
  | 0x0C => .next (maskArrival tag payload s)
  | 0x0D => execClearAlarm tag payload s
  | 0x0E => execPairGrant tag payload s
  | 0x0F => execGetLines tag payload s
  | 0x10 => .next (forceArrival tag payload s)
  | 0x11 => execReadJournal tag payload s
  | 0x12 => execTrimJournal tag payload s
  | 0x13 => execSaveProfile tag payload s
  | 0x14 => execLoadProfile tag payload s
  | 0x15 => execSetBoot tag payload s
  | 0x16 => execGetProfiles tag payload s
  | 0x17 => execRestart tag payload s
  | _ => .next (unknownArrival kind tag payload s)

/-- UNKNOWN_KIND (R121, R125). A kind that is an order code after all is that order (the term is then ill-formed). -/
def execUnknownKind (kind tag : Byte) (payload : List Byte) (s : State) : Host.Outcome State Fault Refusal :=
  frameArrival kind tag payload s

/-! ### The frame receiver (R117 to R120) -/

/-- 65,535 saturates (R120). -/
def satSucc16 (n : Half) : Half := if n = 65535 then 65535 else n + 1

/-- A frame failure: the bytes collected are discarded, the count rises, the receiver returns to HUNT (R118). -/
def State.frameFails (s : State) : State :=
  { s with link := { s.link with rx := .hunt, rxTimer := none, frameErrors := satSucc16 s.link.frameErrors } }

/-- A byte event leaves the receiver in a state other than HUNT, and the inter-byte timer starts again from it (R119). -/
def State.receiveTo (s : State) (r : Receive) : State :=
  { s with link := { s.link with rx := r, rxTimer := some (s.time + 5000) } }

/-- A character error, at which RXD is low: in HUNT it is discarded and not counted, in any other receive state it fails the frame
(R118), and the receiver then waits for one bit time of RXD high (R116). -/
def State.characterError (s : State) : State :=
  (if s.link.rx = .hunt then s else s.frameFails).waitQuiet .characterError 0

/-- FRAME_FAILURE (R118). A LEN over 60 or a bad CHECK fails the frame that showed it, the whole frame being taken in this one event
when the receiver is in HUNT (log 17). While the receiver waits for RXD high no frame is received, and a character error begins the
wait again, of the length it has (R116; log 34, 36). -/
def execFrameFailure (cause : WireFailure) (s : State) : Host.Outcome State Fault Refusal :=
  if s.link.rxEnabled then
    match s.link.rxWait with
    | some w => .next (if cause = .characterError then s.waitQuiet w.quiet 0 else s)
    | none => .next (if cause = .characterError then s.characterError else s.frameFails)
  else .next s

/-- INTER_BYTE_GAP_EXPIRY (R119). -/
def execInterByteGapExpiry (s : State) : Host.Outcome State Fault Refusal :=
  if due s.time s.link.rxTimer then .next s.frameFails else .next s

/-- A byte taken by the frame receiver in its state (R117). The byte that completes a good frame is that frame's arrival. -/
def takeByte (byte : Byte) (s : State) : Host.Outcome State Fault Refusal :=
  match s.link.rx with
  | .hunt => .next (if byte = 0xC3 then s.receiveTo .len else s)
  | .len => .next (if byte.toNat ≤ 60 then s.receiveTo (.kind byte.toNat) else s.frameFails)
  | .kind n => .next (s.receiveTo (.tag n byte))
  | .tag n k => .next (s.receiveTo (if n = 0 then .check k byte [] none else .payload n k byte []))
  | .payload n k t got =>
    .next (s.receiveTo (if n ≤ got.length + 1 then .check k t (got ++ [byte]) none else .payload n k t (got ++ [byte])))
  | .check k t p none => .next (s.receiveTo (.check k t p (some byte)))
  | .check k t p (some high) =>
    if ofBe16 high byte = frameCheck k t p then frameArrival k t p s else .next s.frameFails

/-- BYTE_RECEIVED (R116, R117). A disabled receiver takes no character; one that waits for RXD high takes none either. -/
def execByteReceived (byte : Byte) (s : State) : Host.Outcome State Fault Refusal :=
  if s.link.rxEnabled then
    match s.link.rxWait with
    | some w => .next (s.passOver w (highHalfBits byte))
    | none => takeByte byte s
  else .next s

/-! ### TRANSMISSION_COMPLETION (R68, R128) -/

/-- An entry after the completion of its NOTICE frame (R68): the sent count rises, and while it is NOTIFIED the answer timer
starts. -/
def NoticeEntry.frameSent (e : NoticeEntry) (now : Time) (timeout : Byte) : NoticeEntry :=
  if e.state = .notified then { e with sent := e.sent + 1, answerTimer := some (now + millis (timeout.zeroExtend 16)) }
  else { e with sent := e.sent + 1 }

/-- What a completion does to the block that queued the frame (R128). -/
def State.completed (s : State) (origin : Origin) : State :=
  match origin with
  | .start => { s with link := { s.link with startPending := false } }
  | .answer o restarts =>
    let s := { s with link := { s.link with window := s.link.window.erase o } }
    if restarts then s.beginReset .restart else s
  | .notice (some n) => s.updateEntry n fun e => e.frameSent s.time s.session.answerTimeout
  | .notice none => s
  | .overdue => s

/-- TRANSMISSION_COMPLETION (R128): the transmitter falls idle, the completion is handed on, and the arbiter runs. -/
def execTransmissionCompletion (s : State) : Host.Outcome State Fault Refusal :=
  match s.link.tx with
  | some t =>
    if reached s.time t.ends then .next (({ s with link := { s.link with tx := none } }).completed t.origin).transmit
    else .next s
  | none => .next s

end Sys2Proof.Machine
end

