-- ==== Sys2Proof/Machine/Resets.lean ====
section
/-! DEFINITION. Resets and start-up: POWER_ON, SUPPLY_IN_RANGE, PIN_RESET, RESET_RELEASE, START_UP (09). -/

namespace Sys2Proof.Machine

/-- POWER_ON (R158): the supply leaves its range, and a POWER-ON reset begins. -/
def execPowerOn (s : State) : Host.Outcome State Fault Refusal :=
  let s := s.beginReset .powerOn
  .next { s with power := { s.power with supplyOut := true, supplyLost := true } }

/-- SUPPLY_IN_RANGE (R158): the POWER-ON cause ends. -/
def execSupplyInRange (s : State) : Host.Outcome State Fault Refusal :=
  .next { s with power := { s.power with supplyOut := false } }

/-- PIN_RESET (R158): RESET has been low for 1 µs, and a PIN reset begins. -/
def execPinReset (s : State) : Host.Outcome State Fault Refusal :=
  let s := s.beginReset .pin
  .next { s with power := { s.power with pinLow := true } }

/-- RESET_RELEASE (R158): the PIN cause ends. -/
def execResetRelease (s : State) : Host.Outcome State Fault Refusal :=
  .next { s with power := { s.power with pinLow := false } }

/-! ### Start-up (R160, R161) -/

/-- The part is in its store read period: in reset with no cause lasting (R158; log 20). -/
def ResetUnit.storeRead (p : ResetUnit) : Bool := p.inReset && !p.supplyOut && !p.pinLow

/-- The recorded cause: POWER-ON if the supply has been outside its range since the part last left reset, otherwise the cause of
the reset that began last (R158). -/
def ResetUnit.cause (p : ResetUnit) : ResetCause := if p.supplyLost then .powerOn else p.lastCause

/-- The boot outcome and the profile put in force (R161). -/
def Store.bootChoice (t : Store) : BootOutcome × Profile :=
  match t.boot with
  | none => (.noneDesignated, factoryProfile)
  | some n =>
    match t.slot n with
    | .valid _ p => (.slot n, p)
    | .empty => (.slotEmpty, factoryProfile)
    | .invalid => (.slotInvalid, factoryProfile)

/-- The part leaves reset: the counter reads 0 (R1), every qualified level is the raw level (R3), the rate is sampled from the
straps (R115), the reset cause is recorded (R160 step 1). -/
def State.leaveReset (s : State) : State :=
  { s with
    time := 0
    sources := s.sources.map SourceRecord.inReset
    link := { s.link with rate := strapRate s.link.rateB s.link.rateA }
    store := { s.store with resetCause := s.power.cause }
    power := { s.power with inReset := false, supplyLost := false } }

/-- The RESET and BOOT records, taken by the journal within start-up (R112, R113, R160 steps 3 and 4). -/
def State.journalStartUp (s : State) : State :=
  let reset : RecordBody := { time := s.time, kind := .reset, count := some (s.store.resetCause.code.zeroExtend 32) }
  let boot : RecordBody := { time := s.time, kind := .boot, count := some (s.store.bootOutcome.code.zeroExtend 32) }
  { s with journal := (s.journal.arrive reset).arrive boot }

/-- The receiver is enabled, and waits for ten bit times of RXD high (R116). -/
def State.enableReceiver (s : State) : State := ({ s with link := { s.link with rxEnabled := true } }).waitQuiet .enabled 0

/-- Start-up, in the steps of R160. -/
def State.startUp (s : State) : State :=
  let choice := s.store.bootChoice
  let s := s.leaveReset
  let s := ({ s with store := { s.store with bootOutcome := choice.1 } }).loadTables choice.2
  let s := (s.journalStartUp.loadClasses choice.2).evalAttn
  ({ s with link := { s.link with startPending := true } }).enableReceiver.transmit

/-- START_UP (R160): taken at the end of the store read period. -/
def execStartUp (s : State) : Host.Outcome State Fault Refusal :=
  if s.power.storeRead then .next s.startUp else .next s

end Sys2Proof.Machine
end

