-- ==== Sys2Proof/Machine/Clock.lean ====
section
/-! DEFINITION. What happens when no command waits: the part's own events that are due, in a fixed order, and, with none due,
the passing of 1 µs (log 5, 6). So the counter never passes the expiry of a running timer (R2). -/

namespace Sys2Proof.Machine

/-- The oldest message from block to block that has not been taken, as the command that takes it. -/
def State.dueMessage (s : State) : Option Instr :=
  if s.flight.arrivals ≠ [] then some .journalArrival
  else if s.flight.loss.isSome then some .sessionLost
  else
    match s.flight.reports, s.flight.asks, s.flight.withdrawals with
    | r :: _, _, _ => some (.contributionReport r.source)
    | [], .grant _ _ :: _, _ => some .grantRequest
    | [], .finish _ :: _, _ => some .grantEndRequest
    | [], [], i :: _ => some (.endOnWithdraw i)
    | [], [], [] => none

/-- A timer, transmission or write that has reached its end, as the command that takes it. -/
def State.dueExpiry (s : State) : Option Instr :=
  if due s.time (s.link.tx.map (·.ends)) then some .transmissionCompletion
  else if due s.time s.link.rxTimer then some .interByteGapExpiry
  else
    ((allSources.find? fun i => due s.time ((s.src i).timer.map (·.expiry))).map Instr.qualificationTimerExpiry)
    <|> ((allLines.find? fun g => due s.time (s.line g).guardTimer).map Instr.guardExpiry)
    <|> ((allClasses.find? fun c => due s.time (s.klass c).deadlineTimer).map Instr.deadlineExpiry)
    <|> ((allClasses.find? fun c => due s.time (s.klass c).holdTimer).map Instr.holdExpiry)
    <|> ((s.dispatcher.entries.find? fun e => due s.time e.answerTimer).map fun e => Instr.answerTimerExpiry e.number)
    <|> ((s.dispatcher.entries.find? fun e => due s.time e.serviceTimer).map fun e => Instr.serviceTimerExpiry e.number)
    <|> (match s.store.operation with
      | .save _ _ _ t => if reached s.time t then some .profileSaveCompletion else none
      | .setBoot _ _ t => if reached s.time t then some .setBootCompletion else none
      | .none => none)

/-- The part's own event that comes next when no command waits; none in reset. -/
def State.dueEvent (s : State) : Option Instr :=
  if s.power.inReset then none else s.dueMessage <|> s.dueExpiry

/-- The wait of the receiver for RXD high, a microsecond later: it ends at its reading (R116; log 34, 36). -/
def Link.waited (l : Link) (now : Time) : Link := if due now (l.rxWait.map (·.ends)) then { l with rxWait := none } else l

/-- One microsecond passes; in reset the counter reads 0 (R1). -/
def State.tick (s : State) : State :=
  if s.power.inReset then s else { s with time := s.time + 1, link := s.link.waited (s.time + 1) }

end Sys2Proof.Machine
end

