-- ==== Sys2Proof/Machine/Dispatch.lean ====
section
/-! DEFINITION. One arm per row of the table, each a call of the row's meaning. -/

namespace Sys2Proof.Machine

def exec (i : Instr) (s : State) : Host.Outcome State Fault Refusal :=
  match i with
  | .status tag payload => Sys2Proof.Machine.execStatus tag payload s
  | .echo tag payload => Sys2Proof.Machine.execEcho tag payload s
  | .openSession tag payload => Sys2Proof.Machine.execOpenSession tag payload s
  | .closeSession tag payload => Sys2Proof.Machine.execCloseSession tag payload s
  | .claim tag payload => Sys2Proof.Machine.execClaim tag payload s
  | .release tag payload => Sys2Proof.Machine.execRelease tag payload s
  | .returnNotice tag payload => Sys2Proof.Machine.execReturnNotice tag payload s
  | .setSteer tag payload => Sys2Proof.Machine.execSetSteer tag payload s
  | .getSteer tag payload => Sys2Proof.Machine.execGetSteer tag payload s
  | .setClass tag payload => Sys2Proof.Machine.execSetClass tag payload s
  | .getClass tag payload => Sys2Proof.Machine.execGetClass tag payload s
  | .maskSet tag payload => Sys2Proof.Machine.execMaskSet tag payload s
  | .maskClear tag payload => Sys2Proof.Machine.execMaskClear tag payload s
  | .clearAlarm tag payload => Sys2Proof.Machine.execClearAlarm tag payload s
  | .pairGrant tag payload => Sys2Proof.Machine.execPairGrant tag payload s
  | .getLines tag payload => Sys2Proof.Machine.execGetLines tag payload s
  | .forcePulse tag payload => Sys2Proof.Machine.execForcePulse tag payload s
  | .forceOn tag payload => Sys2Proof.Machine.execForceOn tag payload s
  | .forceOff tag payload => Sys2Proof.Machine.execForceOff tag payload s
  | .readJournal tag payload => Sys2Proof.Machine.execReadJournal tag payload s
  | .trimJournal tag payload => Sys2Proof.Machine.execTrimJournal tag payload s
  | .saveProfile tag payload => Sys2Proof.Machine.execSaveProfile tag payload s
  | .loadProfile tag payload => Sys2Proof.Machine.execLoadProfile tag payload s
  | .setBoot tag payload => Sys2Proof.Machine.execSetBoot tag payload s
  | .getProfiles tag payload => Sys2Proof.Machine.execGetProfiles tag payload s
  | .restart tag payload => Sys2Proof.Machine.execRestart tag payload s
  | .unknownKind kind tag payload => Sys2Proof.Machine.execUnknownKind kind tag payload s
  | .frameFailure cause => Sys2Proof.Machine.execFrameFailure cause s
  | .interByteGapExpiry => Sys2Proof.Machine.execInterByteGapExpiry s
  | .rawLevelChange pin level => Sys2Proof.Machine.execRawLevelChange pin level s
  | .qualificationTimerExpiry source => Sys2Proof.Machine.execQualificationTimerExpiry source s
  | .contributionReport source => Sys2Proof.Machine.execContributionReport source s
  | .deadlineExpiry cls => Sys2Proof.Machine.execDeadlineExpiry cls s
  | .holdExpiry cls => Sys2Proof.Machine.execHoldExpiry cls s
  | .answerTimerExpiry notice => Sys2Proof.Machine.execAnswerTimerExpiry notice s
  | .serviceTimerExpiry notice => Sys2Proof.Machine.execServiceTimerExpiry notice s
  | .guardExpiry line => Sys2Proof.Machine.execGuardExpiry line s
  | .grantRequest => Sys2Proof.Machine.execGrantRequest s
  | .grantEndRequest => Sys2Proof.Machine.execGrantEndRequest s
  | .endOnWithdraw source => Sys2Proof.Machine.execEndOnWithdraw source s
  | .journalArrival => Sys2Proof.Machine.execJournalArrival s
  | .sessionLost => Sys2Proof.Machine.execSessionLost s
  | .transmissionCompletion => Sys2Proof.Machine.execTransmissionCompletion s
  | .profileSaveCompletion => Sys2Proof.Machine.execProfileSaveCompletion s
  | .setBootCompletion => Sys2Proof.Machine.execSetBootCompletion s
  | .powerOn => Sys2Proof.Machine.execPowerOn s
  | .supplyInRange => Sys2Proof.Machine.execSupplyInRange s
  | .pinReset => Sys2Proof.Machine.execPinReset s
  | .resetRelease => Sys2Proof.Machine.execResetRelease s
  | .startUp => Sys2Proof.Machine.execStartUp s
  | .byteReceived byte => Sys2Proof.Machine.execByteReceived byte s

end Sys2Proof.Machine
end

