-- ==== Sys2Proof/Safety.lean ====
section
/-! DEFINITION. What the spec says of every state the part can stand in: the laws of its tables, as predicates on State. -/

namespace Sys2Proof.Machine

/-! ### The journal (R98, R101, R104, R105) -/

/-- The records cover one unbroken run of sequence numbers from `first` up to but not including `next` (R101). -/
def unbroken : Seq → List JournalRecord → Seq → Prop
  | first, [], next => first = next
  | first, r :: rest, next => r.seq = first ∧ unbroken (first + BitVec.ofNat 32 r.coverage) rest next

/-- How many sequence numbers some records cover. -/
def totalCoverage (l : List JournalRecord) : Nat := (l.map JournalRecord.coverage).sum

/-- The laws of the journal: at most 128 records (R98), one unbroken run (R101) of at most 2,147,483,647 numbers (R105), every
record covering at least one (R100), and the 128th place filled only by a GAP (R104). -/
def JournalLaw (j : Journal) : Prop :=
  j.records.length ≤ 128
  ∧ unbroken j.oldest j.records j.next
  ∧ (∀ r ∈ j.records, 1 ≤ r.coverage)
  ∧ totalCoverage j.records ≤ 2147483647
  ∧ (∀ r, j.records.length = 128 → j.records.getLast? = some r → r.body.kind = .gap)

/-- The journal keeps its laws, and no block hands it a GAP, which the journal alone makes (R100). -/
def RecordsLaw (s : State) : Prop := JournalLaw s.journal ∧ ∀ b ∈ s.flight.arrivals, b.kind ≠ .gap

/-! ### Steering and pairings (R19, R88) -/

/-- The sharing rule: a class that holds a source in an edge mode holds no other source (R19). -/
def SharingRule (v : Vector SteerEntry 32) : Prop :=
  ∀ i j : SourceNo, i ≠ j → v[i].cls.isSome → v[i].cls = v[j].cls → v[i].mode.isEdge = false

/-- A source is paired with at most one grant line (R88). -/
def PairingLaw (v : Vector Pairing 8) : Prop :=
  ∀ g h : LineNo, g ≠ h → v[g].source.isSome → v[g].source ≠ v[h].source

/-- Both laws, of a profile. -/
def LawfulProfile (p : Profile) : Prop := SharingRule p.steering ∧ PairingLaw p.pairings

/-- A slot holds a lawful profile, if any (R149). -/
def LawfulSlot : Slot → Prop
  | .valid _ p => LawfulProfile p
  | .empty => True
  | .invalid => True

/-- The snapshot of a save is lawful. -/
def LawfulOperation : Operation → Prop
  | .save _ p _ _ => LawfulProfile p
  | .setBoot _ _ _ => True
  | .none => True

/-- The live tables, every slot and a snapshot being written keep the sharing rule and the pairing law (R19, R88, R149). -/
def TablesLaw (s : State) : Prop :=
  SharingRule s.steering ∧ PairingLaw (s.lines.map (·.pairing)) ∧ (∀ n, LawfulSlot (s.store.slot n))
  ∧ LawfulOperation s.store.operation

/-! ### Source records (R3, R4, R6 to R8) -/

/-- What the record of a source in a mode satisfies out of reset: a running timer moves away from the qualified level, a stopped
one leaves the raw level there (R4); the live flag is derived (R8); in an edge mode the count is 0 exactly when the latch is clear
(R7); in a level mode the latch is clear, and in OFF latch, count and forced flag are clear (R6). -/
def SourceLaw (m : SourceMode) (r : SourceRecord) : Prop :=
  (match r.timer with
   | some t => t.target ≠ r.qualified ∧ r.raw = t.target
   | none => r.raw = r.qualified)
  ∧ r.live = liveValue m r.qualified r.forced
  ∧ (m.isEdge = true → (r.count = 0 ↔ r.latch = false) ∧ r.forced = false)
  ∧ (m.isLevel = true → r.latch = false)
  ∧ (m = .off → r.latch = false ∧ r.count = 0 ∧ r.forced = false)

/-- The law of the source records, out of reset. -/
def SourcesLaw (s : State) : Prop := s.power.inReset = false → ∀ i, SourceLaw (s.steer i).mode (s.src i)

/-! ### The notice table (R59, R60, R69, R78) -/

/-- The laws of the notice table: at most 8 entries, distinct numbers and none 0, one entry per class in flight with the class's
state and critical setting, no entry while the session is DOWN, at most the credit's number of non-critical entries, answer timers
only in NOTIFIED and service timers only in IN-SERVICE (R60, R69, R78), a claim list and a claim time exactly once the entry has been
claimed, in IN-SERVICE and EXPIRED (R59, R73, R79); and a hold timer only in HELD (R31). -/
def NoticeLaw (s : State) : Prop :=
  s.dispatcher.entries.length ≤ 8
  ∧ (s.dispatcher.entries.map (·.number)).Nodup
  ∧ (s.dispatcher.entries.map (·.cls)).Nodup
  ∧ (∀ e ∈ s.dispatcher.entries,
      e.number ≠ 0 ∧ (s.klass e.cls).state = e.state.toClass ∧ e.critical = (s.klass e.cls).settings.critical
      ∧ (e.answerTimer.isSome → e.state = .notified) ∧ (e.serviceTimer.isSome → e.state = .inService)
      ∧ (e.claimList.isSome ↔ e.state ≠ .notified) ∧ (e.claimTime.isSome ↔ e.state ≠ .notified))
  ∧ (∀ c, (s.klass c).state.inFlight = true → ∃ e ∈ s.dispatcher.entries, e.cls = c)
  ∧ (s.session.up = false → s.dispatcher.entries = [])
  ∧ (s.dispatcher.entries.filter fun e => !e.critical).length ≤ s.session.credit.toNat
  ∧ s.session.credit.toNat ≤ 8
  ∧ s.dispatcher.nextNumber ≠ 0
  ∧ (∀ c, (s.klass c).holdTimer.isSome → (s.klass c).state = .held)

/-! ### The notice send list (R66, R68 to R70) -/

/-- The entry state in which a frame of a kind waits: NOTICE, first or repeat, in NOTIFIED, OVERDUE in EXPIRED (R66, R70, R79). -/
def NoticeFrameKind.waitsIn : NoticeFrameKind → EntryState
  | .first | .again => .notified
  | .overdue => .expired

/-- The entry whose NOTICE frame is being sent, by its number (R68). -/
def State.noticeUnderWay (s : State) : Option Byte :=
  match s.link.tx with
  | some t =>
    match t.origin with
    | .notice n => n
    | .start | .answer _ _ | .overdue => none
  | none => none

/-- How many NOTICE frames of an entry are still to be completed: the one on the send list and the one being sent (R66, R68). -/
def State.noticesToSend (s : State) (n : Byte) : Nat :=
  (s.dispatcher.sendList.filter fun f => f.notice == n && decide (f.kind ≠ .overdue)).length
  + (if s.noticeUnderWay = some n then 1 else 0)

/-- The laws of the notice send list. It holds at most one frame for each entry, and each frame belongs to an entry of the table, of the
frame's class and in the state in which such a frame waits (R66). A NOTICE frame being sent belongs to an entry of the table too, if it
has not lost its entry (R68). Of each entry at most one NOTICE frame is still to be completed, since a repeat joins only after the frame before it has been completed,
and none while its answer timer runs (R66, R69). And the sent
count with the frames still to be sent is at most the retry limit and 1, so at most 8 (R59, R70). -/
def SendListLaw (s : State) : Prop :=
  (s.dispatcher.sendList.map (·.notice)).Nodup
  ∧ (∀ f ∈ s.dispatcher.sendList, ∃ e ∈ s.dispatcher.entries, e.number = f.notice ∧ e.cls = f.cls ∧ e.state = f.kind.waitsIn)
  ∧ (∀ n, s.noticeUnderWay = some n → ∃ e ∈ s.dispatcher.entries, e.number = n)
  ∧ (∀ e ∈ s.dispatcher.entries, s.noticesToSend e.number ≤ 1)
  ∧ (∀ e ∈ s.dispatcher.entries, e.answerTimer.isSome → s.noticesToSend e.number = 0)
  ∧ (∀ e ∈ s.dispatcher.entries, e.sent + s.noticesToSend e.number ≤ s.session.retryLimit.toNat + 1)
  ∧ s.session.retryLimit.toNat ≤ 7

/-! ### Class records and ALARM (R31, R45, R49, R50) -/

/-- The states in which a deadline timer may run and a late flag be set (R45, R49). -/
def ClassState.awaits : ClassState → Bool
  | .pending | .notified | .held => true
  | .idle | .inService | .expired => false

/-- What a class record satisfies: the deadline timer runs and the late flag is set only in a critical class and only in PENDING,
NOTIFIED or HELD (R31, R45, R49); the hold timer runs exactly in HELD (R31, R40); the first-pending time is absent exactly in IDLE
(R31, R33); and a class in PENDING has reported contributions (R31, R33, R34, R36). -/
def ClassLaw (r : ClassRecord) : Prop :=
  (r.deadlineTimer.isSome → r.settings.critical = true ∧ r.state.awaits = true)
  ∧ (r.late = true → r.settings.critical = true ∧ r.state.awaits = true)
  ∧ (r.holdTimer.isSome ↔ r.state = .held)
  ∧ (r.firstPending = none ↔ r.state = .idle)
  ∧ (r.state = .pending → r.reported ≠ [])

/-- The law of the class records, and: while any class's late flag is set, ALARM is asserted (R50). -/
def ClassesLaw (s : State) : Prop :=
  (∀ c, ClassLaw (s.klass c)) ∧ (∀ c, (s.klass c).late = true → s.alarm = true)

/-! ### Grant lines (R86) -/

/-- What a grant line record satisfies (R86): the waiting flag only in GUARD, the grant notice present exactly while GRANTED or
waiting, the guard timer running exactly in GUARD, UNPAIRED only without a source, READY, GRANTED and waiting only with one. -/
def LineLaw (r : LineRecord) : Prop :=
  (r.waiting = true → r.state = .guarding)
  ∧ (r.notice.isSome ↔ r.holds = true)
  ∧ (r.guardTimer.isSome ↔ r.state = .guarding)
  ∧ (r.state = .unpaired → r.pairing.source = none)
  ∧ (r.state = .ready ∨ r.holds = true → r.pairing.source.isSome)

def LinesLaw (s : State) : Prop := ∀ g, LineLaw (s.line g)

/-- Entry n is IN-SERVICE and its claim list names source i, which is still steered to the entry's class (R59, R74). -/
def State.serves (s : State) (i : SourceNo) (n : Byte) : Prop :=
  ∃ e ∈ s.dispatcher.entries, e.number = n ∧ e.state = .inService ∧ (s.steer i).cls = some e.cls
    ∧ ∃ l, e.claimList = some l ∧ ∃ x ∈ l, x.source = i

/-- What the grants mean. A line that is GRANTED or waiting serves a source in the claim list of the IN-SERVICE entry whose number is
its grant notice, and so does a grant asked for (R91), unless the end of that entry's grants has been asked for and not been taken
(R92). And while the session is DOWN no line is GRANTED or waiting, and no request is left that could make one so (R140, R141). -/
def GrantsLaw (s : State) : Prop :=
  (∀ g n, (s.line g).notice = some n →
    .finish n ∈ s.flight.asks ∨ ∃ i, (s.line g).pairing.source = some i ∧ s.serves i n)
  ∧ (∀ pre i n post, s.flight.asks = pre ++ .grant i n :: post → .finish n ∈ post ∨ s.serves i n)
  ∧ (s.session.up = false → s.flight.asks = [] ∧ ∀ g, (s.line g).holds = false)

/-! ### Time (R2) -/

/-- The reading at which the write of an operation ends. -/
def Operation.ends? : Operation → Option Time
  | .save _ _ _ t => some t
  | .setBoot _ _ t => some t
  | .none => Option.none

/-- The expiry readings of every timer that runs, with the ends of the transmission and of the write under way. -/
def State.runningTimers (s : State) : List Time :=
  (allSources.filterMap fun i => (s.src i).timer.map (·.expiry))
  ++ (allClasses.filterMap fun c => (s.klass c).deadlineTimer) ++ (allClasses.filterMap fun c => (s.klass c).holdTimer)
  ++ (s.dispatcher.entries.filterMap (·.answerTimer)) ++ (s.dispatcher.entries.filterMap (·.serviceTimer))
  ++ (allLines.filterMap fun g => (s.line g).guardTimer)
  ++ s.link.rxTimer.toList ++ (s.link.rxWait.map (·.ends)).toList ++ (s.link.tx.map (·.ends)).toList ++ s.store.operation.ends?.toList

/-- No running timer is further from its expiry than the longest there is, 65,535,000 µs (R2): so the counter has passed no expiry
reading, and each timer expires exactly when it has run its length. -/
def TimersLaw (s : State) : Prop := ∀ t ∈ s.runningTimers, (t - s.time).toNat ≤ 65535000

/-- Every frame that waits to be sent fits a frame's 60 bytes of payload, an answer with its result and its link flags (R125, R164). -/
def FramesFit (s : State) : Prop :=
  (∀ a ∈ s.link.answers, a.fields.length ≤ 58) ∧ (∀ f ∈ s.dispatcher.sendList, f.payload.length ≤ 60)

/-! ### The link (R117, R119, R122, R126, R131) -/

/-- The order whose answer is in transmission. -/
def sendingOrders : Option Sending → List Order
  | some t =>
    match t.origin with
    | .answer o _ => [o]
    | .start | .notice _ | .overdue => []
  | none => []

/-- The order whose answer waits for its operation's completion. -/
def heldOrders : Operation → List Order
  | .save _ _ o _ => [o]
  | .setBoot _ o _ => [o]
  | .none => []

/-- The laws of the link: the window holds at most 4 orders, and they are exactly those whose answers are queued, being sent or
held back (R122, R126); the inter-byte timer runs exactly out of HUNT (R119); the receiver is disabled exactly while the part
is in reset (R116, R131); and a receiver that waits for RXD high is enabled, and one that waits or is disabled stands in HUNT (R116,
R131). -/
def LinkLaw (s : State) : Prop :=
  s.link.window.length ≤ 4
  ∧ s.link.window.Perm
      (s.link.answers.map (·.order) ++ sendingOrders s.link.tx ++ heldOrders s.store.operation)
  ∧ (s.link.rxTimer.isSome ↔ s.link.rx ≠ .hunt)
  ∧ s.link.rxEnabled = !s.power.inReset
  ∧ (s.link.rxWait.isSome → s.link.rxEnabled = true)
  ∧ (s.link.rxWait.isSome ∨ s.link.rxEnabled = false → s.link.rx = .hunt)

/-! ### ATTN (R143) -/

/-- ATTN is asserted exactly under the condition of R143. -/
def AttnLaw (s : State) : Prop := s.session.attn = s.attnCondition

/-! ### The Profile Store (R148, R152 to R154) -/

/-- The laws of the Profile Store: a VALID slot has a generation of 1 or more (R148), two VALID slots never hold the same one
(R157), the slot that a save is writing is INVALID (R152), and while a set-boot runs the designation is none (R154). -/
def StoreLaw (s : State) : Prop :=
  (∀ n g p, s.store.slot n = .valid g p → g ≠ 0)
  ∧ (∀ m n g h p q, m ≠ n → s.store.slot m = .valid g p → s.store.slot n = .valid h q → g ≠ h)
  ∧ (∀ n p o t, s.store.operation = .save n p o t → s.store.slot n = .invalid)
  ∧ (∀ d o t, s.store.operation = .setBoot d o t → s.store.boot = none)

/-! ### In reset (R1, R3, R50, R57, R59, R86, R131, R135, R158) -/

/-- While the part is in reset every block holds its reset values: the counter reads 0 (R1), ALARM is deasserted (R50), latches,
counts, flags and timers are clear or stopped (R3, R57; that the live flag, which R3 gives only as the part leaves reset, is false: log
21), the notice table is empty (R59), every line is ungranted (R86), the link is
as R131 says, the session is DOWN with ATTN released (R135), no operation runs (R158) and no message is in flight (R113). -/
def ResetLaw (s : State) : Prop :=
  s.power.inReset = true →
    s.time = 0 ∧ s.alarm = false
    ∧ (∀ i, (s.src i).timer = none ∧ (s.src i).latch = false ∧ (s.src i).count = 0 ∧ (s.src i).forced = false
        ∧ (s.src i).live = false)
    ∧ (∀ c, s.klass c = resetClass (s.klass c).settings)
    ∧ s.dispatcher = resetDispatcher
    ∧ (∀ g, s.line g = freshLine (s.line g).pairing)
    ∧ s.link = s.link.inReset
    ∧ s.session = resetSession
    ∧ s.store.operation = .none
    ∧ s.flight = noMessages

/-! ### Frames and the commands they are (R117, R121, R164, R166) -/

/-- The frame whose arrival a command is, for the rows that are the arrival of a whole good frame; none for every other row. -/
def frameOf : Instr → Option Frame
  | .status tag p => some { kind := 0x01, tag := tag, payload := p }
  | .echo tag p => some { kind := 0x02, tag := tag, payload := p }
  | .openSession tag p => some { kind := 0x03, tag := tag, payload := p }
  | .closeSession tag p => some { kind := 0x04, tag := tag, payload := p }
  | .claim tag p => some { kind := 0x05, tag := tag, payload := p }
  | .release tag p => some { kind := 0x06, tag := tag, payload := p }
  | .returnNotice tag p => some { kind := 0x07, tag := tag, payload := p }
  | .setSteer tag p => some { kind := 0x08, tag := tag, payload := p }
  | .getSteer tag p => some { kind := 0x09, tag := tag, payload := p }
  | .setClass tag p => some { kind := 0x0A, tag := tag, payload := p }
  | .getClass tag p => some { kind := 0x0B, tag := tag, payload := p }
  | .maskSet tag p => some { kind := 0x0C, tag := tag, payload := p }
  | .maskClear tag p => some { kind := 0x0C, tag := tag, payload := p }
  | .clearAlarm tag p => some { kind := 0x0D, tag := tag, payload := p }
  | .pairGrant tag p => some { kind := 0x0E, tag := tag, payload := p }
  | .getLines tag p => some { kind := 0x0F, tag := tag, payload := p }
  | .forcePulse tag p => some { kind := 0x10, tag := tag, payload := p }
  | .forceOn tag p => some { kind := 0x10, tag := tag, payload := p }
  | .forceOff tag p => some { kind := 0x10, tag := tag, payload := p }
  | .readJournal tag p => some { kind := 0x11, tag := tag, payload := p }
  | .trimJournal tag p => some { kind := 0x12, tag := tag, payload := p }
  | .saveProfile tag p => some { kind := 0x13, tag := tag, payload := p }
  | .loadProfile tag p => some { kind := 0x14, tag := tag, payload := p }
  | .setBoot tag p => some { kind := 0x15, tag := tag, payload := p }
  | .getProfiles tag p => some { kind := 0x16, tag := tag, payload := p }
  | .restart tag p => some { kind := 0x17, tag := tag, payload := p }
  | .unknownKind kind tag p => some { kind := kind, tag := tag, payload := p }
  | .frameFailure _ | .interByteGapExpiry | .rawLevelChange _ _ | .qualificationTimerExpiry _ | .contributionReport _
  | .deadlineExpiry _ | .holdExpiry _ | .answerTimerExpiry _ | .serviceTimerExpiry _ | .guardExpiry _ | .grantRequest
  | .grantEndRequest | .endOnWithdraw _ | .journalArrival | .sessionLost | .transmissionCompletion | .profileSaveCompletion
  | .setBootCompletion | .powerOn | .supplyInRange | .pinReset | .resetRelease | .startUp | .byteReceived _ => none

/-- The payload lengths that an order admits, from the table of R166; a kind that is no order code admits none. -/
def lengthAdmitted (kind : Byte) (n : Nat) : Bool :=
  match kind.toNat with
  | 0x01 | 0x04 | 0x0D | 0x0F | 0x16 | 0x17 => n == 0
  | 0x02 => decide (n ≤ 54)
  | 0x03 | 0x11 | 0x12 => n == 4
  | 0x05 | 0x06 | 0x09 | 0x0B | 0x13 | 0x14 | 0x15 => n == 1
  | 0x07 | 0x0C => n == 3
  | 0x08 | 0x0E => n == 5
  | 0x0A => n == 7
  | 0x10 => n == 2
  | _ => false

/-- An order that arrives now is admitted: the receiver is enabled and does not wait for RXD high (R116), and the window has room
(R121, step 1). -/
def State.admits (s : State) : Prop := s.link.rxEnabled = true ∧ s.link.rxWait = none ∧ s.link.window.length < 4

/-- The state in which order `o` has entered the window, its answer has joined the queue, and the receiver is back in HUNT
(R117, R122, R126); nothing else differs. -/
def State.answered (s : State) (o : Order) (r : Result) (fields : List Byte) : State :=
  { s with link := { s.link with
      rx := .hunt, rxTimer := none, window := s.link.window ++ [o]
      answers := s.link.answers ++ [{ order := o, result := r, fields := fields }] } }

/-- The state in which order `o` has entered the window and no answer has been built yet (R122, R152, R154). -/
def State.windowed (s : State) (o : Order) : State :=
  { s with link := { s.link with rx := .hunt, rxTimer := none, window := s.link.window ++ [o] } }

/-- Some bytes are received, one BYTE_RECEIVED after another. -/
def receiveBytes : List Byte → State → Host.Outcome State Fault Refusal
  | [], s => .next s
  | b :: rest, s =>
    match exec (.byteReceived b) s with
    | .next t => receiveBytes rest t
    | .fault x => .fault x
    | .refused x => .refused x

end Sys2Proof.Machine
end

