-- ==== Sys2Proof/Certificates/Slice0/Obligations.lean ====
section
/-! DEFINITION. The statements for the provers. Each docstring names the rules of spec/ that a statement formalises, and the log
entries of the choices it rests on. -/

open Sys2Proof Sys2Proof.Machine

/-! ### One step -/

/-- One step takes the command at the front of the queue: it is `exec` of that command on the state with the queue's rest. -/
def Obligations.StepTakesTheFrontCommand : Prop :=
  ∀ (i : Instr) (rest : List Instr) (s : State), s.pending = i :: rest → step s = exec i { s with pending := rest }

/-- On an empty queue a step is the part's own due event, or, with none due, 1 µs out of reset and nothing in reset, where the counter
reads 0 (R1). Which due event comes first is the model's choice (log 5, 6), and so is the reading at which a wait for RXD high ends
(R116; log 34, 36). -/
def Obligations.IdleStepTakesADueEventOrOneMicrosecond : Prop :=
  ∀ s : State, s.pending = [] →
    (∀ i, s.dueEvent = some i → step s = exec i s)
    ∧ (s.dueEvent = none → s.power.inReset = false → step s = .next { s with
        time := s.time + 1
        link := { s.link with rxWait := if s.link.rxWait.any (fun w => reached (s.time + 1) w.ends) then none else s.link.rxWait } })
    ∧ (s.power.inReset = true → step s = .next s)

/-- Every command has a next state in every state, the queue is not the command's to change, and the counter moves by a command only
to 0, at a reset or at start-up (R1). -/
def Obligations.EveryCommandAnswersNextAndKeepsQueueAndCounter : Prop :=
  ∀ (i : Instr) (s : State), ∃ t, exec i s = .next t ∧ t.pending = s.pending
    ∧ (t.time ≠ s.time → t.time = 0
        ∧ (i = .powerOn ∨ i = .pinReset ∨ i = .transmissionCompletion ∨ i = .startUp))

/-- The state after reset keeps every law of Safety.lean. -/
def Obligations.LawsHoldAtReset : Prop :=
  RecordsLaw State.reset ∧ TablesLaw State.reset ∧ SourcesLaw State.reset ∧ NoticeLaw State.reset
  ∧ ClassesLaw State.reset ∧ LinesLaw State.reset ∧ LinkLaw State.reset ∧ AttnLaw State.reset ∧ StoreLaw State.reset
  ∧ ResetLaw State.reset ∧ GrantsLaw State.reset ∧ TimersLaw State.reset ∧ FramesFit State.reset
  ∧ SendListLaw State.reset

/-! ### The laws that every step keeps -/

/-- The journal's laws are kept by every step, and no block hands the journal a GAP (R98, R100, R101, R104, R105). -/
def Obligations.JournalLawKeptByEveryStep : Prop :=
  ∀ s t : State, RecordsLaw s → step s = .next t → RecordsLaw t

/-- The sharing rule and the pairing law are kept by every step, in the live tables and in the store (R19, R88, R149). -/
def Obligations.TablesLawKeptByEveryStep : Prop :=
  ∀ s t : State, TablesLaw s → step s = .next t → TablesLaw t

/-- The law of the source records is kept by every step (R3, R4, R6, R7, R8). -/
def Obligations.SourcesLawKeptByEveryStep : Prop :=
  ∀ s t : State, SourcesLaw s → step s = .next t → SourcesLaw t

/-- The laws of the notice table are kept by every step from a state that, if in reset, holds its reset values (R59, R60, R69, R73, R78,
R79), and so are those of the notice send list: at most one frame for each entry, each belonging to an entry of the table, at most one
NOTICE frame of an entry still to be completed (R66, R69), and no notice sent more often than the retry limit and once more, so at most
8 times (R59, R70). A frame being sent is matched to its entry as log 23 says (R68). -/
def Obligations.NoticeLawKeptByEveryStep : Prop :=
  ∀ s t : State, ResetLaw s → NoticeLaw s → step s = .next t → NoticeLaw t ∧ (SendListLaw s → SendListLaw t)

/-- The law of the class records, and ALARM while a class is late, are kept by every step from a state with a lawful notice table (R31,
R33, R34, R36, R45, R49, R50). -/
def Obligations.ClassesLawKeptByEveryStep : Prop :=
  ∀ s t : State, NoticeLaw s → ClassesLaw s → step s = .next t → ClassesLaw t

/-- The law of the grant line records is kept by every step (R86); and, from a state with a lawful notice table that holds its reset
values if in reset, so is what the grants mean: each serves an entry IN-SERVICE whose end has not been asked for (R91, R92), and while
the session is DOWN no line is GRANTED or waiting and none can become so (R140, R141). -/
def Obligations.LinesAndGrantsLawsKeptByEveryStep : Prop :=
  ∀ s t : State, LinesLaw s → step s = .next t →
    LinesLaw t ∧ (ResetLaw s → NoticeLaw s → GrantsLaw s → GrantsLaw t)

/-- The laws of the link are kept by every step (R116, R119, R122, R126, R131). -/
def Obligations.LinkLawKeptByEveryStep : Prop :=
  ∀ s t : State, LinkLaw s → step s = .next t → LinkLaw t

/-- ATTN is asserted exactly under the condition of R143 after every step that starts so. -/
def Obligations.AttnLawKeptByEveryStep : Prop :=
  ∀ s t : State, AttnLaw s → step s = .next t → AttnLaw t

/-- The laws of the Profile Store are kept by every step (R148, R152, R154, R157). -/
def Obligations.StoreLawKeptByEveryStep : Prop :=
  ∀ s t : State, StoreLaw s → step s = .next t → StoreLaw t

/-- A part in reset holds its reset values, and every step keeps it so (R158 and each block's own rule); that a live flag reads false
there is the model's choice (log 21). And no step passes the expiry reading of a running timer: none is ever further from its expiry
than the longest there is (R2), and every frame that waits to be sent keeps to its greatest length (R125, R164). -/
def Obligations.ResetAndTimersLawsKeptByEveryStep : Prop :=
  ∀ s t : State, ResetLaw s → step s = .next t →
    ResetLaw t ∧ (TimersLaw s → FramesFit s → TimersLaw t ∧ FramesFit t)

/-! ### The link: frames, admission, the transmitter -/

/-- Every order row, and UNKNOWN_KIND, is on the wire the bytes of its frame: from HUNT, a receiver that takes them one by one does
exactly what the command does (R117, R164, R165), also while it waits for RXD high, where neither is received (R116; log 34, 36). -/
def Obligations.FramesOnTheWireAreTheirCommands : Prop :=
  ∀ (i : Instr) (f : Frame) (s : State), frameOf i = some f → i.wf = true → s.link.rxEnabled = true → s.link.rx = .hunt →
    receiveBytes f.wire s = exec i s

/-- The records of R166 and R167 and the numbers of R163 are read back as they were written: a steering entry, class settings with
a deadline of 1 or more, a pairing, a 16-bit and a 32-bit field. -/
def Obligations.RecordsAreReadBackAsWritten : Prop :=
  (∀ e : SteerEntry, ∃ m c q j, e.bytes = [m, c, q, j] ∧ steerEntry? m c q j = some e)
  ∧ (∀ x : ClassSettings, x.deadline ≠ 0 → ∃ m k d1 d0 l1 l0, x.bytes = [m, k, d1, d0, l1, l0]
      ∧ classSettings? m k d1 d0 l1 l0 = some x)
  ∧ (∀ r : LineRecord, ∃ i p g w rest, r.bytes = [i, p, g, w] ++ rest ∧ pairing? i p g w = some r.pairing)
  ∧ (∀ h : Half, ∃ a b, be16 h = [a, b] ∧ ofBe16 a b = h)
  ∧ (∀ w : BitVec 32, ∃ a b c d, be32 w = [a, b, c, d] ∧ ofBe32 a b c d = w)

/-- A frame that comes to a disabled receiver is not received (R116), nor is one that comes while the receiver waits for RXD high: the
ten bit times of an enabled receiver begin again from its last character (R116; how long they then are, the model's choice: log 34), and
the one bit time after a character error stands (log 36); one that comes while the window holds 4 orders is discarded, and the overrun
flag is set (R121 step 1, R123). -/
def Obligations.OrdersRefusedAtTheLink : Prop :=
  ∀ (i : Instr) (f : Frame) (s : State), frameOf i = some f →
    (s.link.rxEnabled = false → exec i s = .next s)
    ∧ (∀ w, s.link.rxEnabled = true → s.link.rxWait = some w → w.quiet = .enabled →
        exec i s = .next { s with link := { s.link with rxWait := some (
          { quiet := .enabled
            ends := s.time
              + quietMicros s.link.rate .enabled (highHalfBits ((frameCheck f.kind f.tag f.payload).setWidth 8)) } : RxWait) } })
    ∧ (∀ w, s.link.rxEnabled = true → s.link.rxWait = some w → w.quiet = .characterError → exec i s = .next s)
    ∧ (s.link.rxEnabled = true → s.link.rxWait = none → 4 ≤ s.link.window.length →
        exec i s = .next { s with link := { s.link with rx := .hunt, rxTimer := none, overrun := true } })

/-- An order whose payload length its kind does not admit is answered MALFORMED with the length received, and nothing else changes
(R121 step 3, R125, R166). -/
def Obligations.WrongLengthIsAnsweredMalformed : Prop :=
  ∀ (i : Instr) (f : Frame) (s : State), frameOf i = some f → isOrderCode f.kind = true →
    lengthAdmitted f.kind f.payload.length = false → s.admits →
    exec i s = .next (s.answered { kind := f.kind, tag := f.tag } .malformed [byteOf f.payload.length]).transmit

/-- The transmitter arbiter: a transmitter that sends goes on; an idle one takes START, else the oldest answer, which takes the
overrun mark, else the first notice frame of the lowest-numbered class (R66, R123, R125, R127, R162). An answer and a notice frame
that join an idle transmitter together may be taken in either order (R127; the free value of log 9). The end of each transmission is
a whole number of µs, rounded down, which is the model's choice (log 7); so is that the completion of an answer begins a reset only
where its order is RESTART and its result OK, a MALFORMED one beginning none (log 19). -/
def Obligations.TransmitterArbiterChoosesInOrder : Prop :=
  ∀ s : State,
    let noticeTaken := fun (u : State) (pre : List NoticeFrame) (f : NoticeFrame) (post : List NoticeFrame) =>
      ({ u with
          dispatcher := { u.dispatcher with sendList := pre ++ post }
          link := { u.link with
            tx := some
              { frame := { kind := if f.kind = .overdue then 0x61 else 0x60, tag := 0, payload := f.payload }
                origin := if f.kind = .overdue then .overdue else .notice (some f.notice)
                ends := u.time + frameMicros u.link.rate f.payload.length } } } : State)
    (s.link.tx.isSome → s.transmit = s)
    ∧ (s.link.tx = none → s.link.startPending = true →
        s.transmit = { s with link := { s.link with
          tx := some
            { frame := { kind := 0x62, tag := 0
                         payload := [s.store.resetCause.code, s.store.bootOutcome.code] ++ be32 s.journal.next }
              origin := .start, ends := s.time + frameMicros s.link.rate 6 } } })
    ∧ (s.link.tx = none → s.link.startPending = false → ∀ a rest, s.link.answers = a :: rest →
        s.transmit = { s with link := { s.link with
          answers := rest, overrun := false
          tx := some
            { frame := { kind := if a.result = .unknown then 0x80 else a.order.kind + 0x80
                         tag := a.order.tag
                         payload := [a.result.code, flagByte s.link.overrun] ++ a.fields }
              origin := .answer a.order (decide (a.order.kind = 0x17 ∧ a.result = .ok))
              ends := s.time + frameMicros s.link.rate (2 + a.fields.length) } } })
    ∧ (s.link.tx = none → s.link.startPending = false → s.link.answers = [] → ∀ pre f post,
        s.dispatcher.sendList = pre ++ f :: post → (∀ g ∈ pre, f.cls < g.cls) → (∀ g ∈ post, f.cls ≤ g.cls) →
        s.transmit = noticeTaken s pre f post)
    ∧ (s.link.startPending = false → s.link.answers = [] → s.dispatcher.sendList = [] → s.transmit = s)
    ∧ (s.link.tx = none → s.link.startPending = false → s.link.answers ≠ [] → ∀ pre f post,
        s.dispatcher.sendList = pre ++ f :: post → (∀ g ∈ pre, f.cls < g.cls) → (∀ g ∈ post, f.cls ≤ g.cls) →
        s.transmitJoined = ({ s with choices := s.choices + 1 } : State).transmit
        ∨ s.transmitJoined = noticeTaken { s with choices := s.choices + 1 } pre f post)
    ∧ (s.link.tx.isSome ∨ s.link.startPending = true ∨ s.link.answers = [] ∨ s.dispatcher.sendList = [] →
        s.transmitJoined = s.transmit)

/-- BYTE_RECEIVED, state by state of the receiver (R117, R118, R119). A disabled receiver takes no byte, and one that waits for RXD high
takes none either: the ten bit times of an enabled receiver begin again (R116; how long they then are, the model's choice: log 34), and
the one bit time after a character error stands (R116; that its reading does, the model's choice: log 36). -/
def Obligations.ByteReceivedFollowsTheReceiveStates : Prop :=
  ∀ (b : Byte) (s : State),
    (s.link.rxEnabled = false → exec (.byteReceived b) s = .next s)
    ∧ (∀ w, s.link.rxEnabled = true → s.link.rxWait = some w → w.quiet = .enabled → exec (.byteReceived b) s
        = .next { s with link := { s.link with rxWait := some (
            { quiet := .enabled, ends := s.time + quietMicros s.link.rate .enabled (highHalfBits b) } : RxWait) } })
    ∧ (∀ w, s.link.rxEnabled = true → s.link.rxWait = some w → w.quiet = .characterError → exec (.byteReceived b) s = .next s)
    ∧ (s.link.rxEnabled = true → s.link.rxWait = none →
      let go := fun (r : Receive) =>
        (.next { s with link := { s.link with rx := r, rxTimer := some (s.time + 5000) } } : Host.Outcome State Fault Refusal)
      let failed : Host.Outcome State Fault Refusal :=
        .next { s with link := { s.link with
          rx := .hunt, rxTimer := none
          frameErrors := if s.link.frameErrors = 65535 then 65535 else s.link.frameErrors + 1 } }
      (s.link.rx = .hunt → b = 0xC3 → exec (.byteReceived b) s = go .len)
      ∧ (s.link.rx = .hunt → b ≠ 0xC3 → exec (.byteReceived b) s = .next s)
      ∧ (s.link.rx = .len → b.toNat ≤ 60 → exec (.byteReceived b) s = go (.kind b.toNat))
      ∧ (s.link.rx = .len → 61 ≤ b.toNat → exec (.byteReceived b) s = failed)
      ∧ (∀ n, s.link.rx = .kind n → exec (.byteReceived b) s = go (.tag n b))
      ∧ (∀ n k, s.link.rx = .tag n k → 1 ≤ n → exec (.byteReceived b) s = go (.payload n k b []))
      ∧ (∀ k, s.link.rx = .tag 0 k → exec (.byteReceived b) s = go (.check k b [] none))
      ∧ (∀ n k t p, s.link.rx = .payload n k t p → p.length + 1 < n →
          exec (.byteReceived b) s = go (.payload n k t (p ++ [b])))
      ∧ (∀ n k t p, s.link.rx = .payload n k t p → n ≤ p.length + 1 →
          exec (.byteReceived b) s = go (.check k t (p ++ [b]) none))
      ∧ (∀ k t p, s.link.rx = .check k t p none → exec (.byteReceived b) s = go (.check k t p (some b)))
      ∧ (∀ k t p h, s.link.rx = .check k t p (some h) → h ++ b ≠ frameCheck k t p → exec (.byteReceived b) s = failed)
      ∧ (∀ k t p h, s.link.rx = .check k t p (some h) → h ++ b = frameCheck k t p →
          exec (.byteReceived b) s = frameArrival k t p s))

/-- A frame failure and an inter-byte gap: the receiver returns to HUNT, its timer stops, and the frame-error count rises by 1 and stays
at 65,535; a character error in HUNT is discarded and not counted (R118, R119, R120); and after a character error, in HUNT or not, the
receiver waits for one bit time of RXD high (R116; counted to the byte event of the first character that can be taken, the model's
choice: log 36). That a LEN over 60 or a bad CHECK counts with the receiver in HUNT, where the row stands for its whole frame, is the
model's choice (log 17); so are what a failure does while the receiver waits for RXD high, where a character error begins the wait again
(R116; log 34, 36), and that a gap timer that is stopped or has not run its length leaves the state (R2; log 4). -/
def Obligations.FrameFailuresAreCounted : Prop :=
  ∀ s : State,
    let failed : State := { s with link := { s.link with
      rx := .hunt, rxTimer := none
      frameErrors := if s.link.frameErrors = 65535 then 65535 else s.link.frameErrors + 1 } }
    let waits := fun (q : Quiet) (t : State) => ({ t with link := { t.link with
      rxWait := some { quiet := q, ends := s.time + quietMicros s.link.rate q 0 } } } : State)
    (∀ c, s.link.rxEnabled = true → s.link.rxWait = none → c ≠ .characterError → exec (.frameFailure c) s = .next failed)
    ∧ (s.link.rxEnabled = true → s.link.rxWait = none → s.link.rx ≠ .hunt →
        exec (.frameFailure .characterError) s = .next (waits .characterError failed))
    ∧ (s.link.rxEnabled = true → s.link.rxWait = none → s.link.rx = .hunt →
        exec (.frameFailure .characterError) s = .next (waits .characterError s))
    ∧ (∀ w, s.link.rxEnabled = true → s.link.rxWait = some w →
        (∀ c, c ≠ .characterError → exec (.frameFailure c) s = .next s)
        ∧ exec (.frameFailure .characterError) s = .next (waits w.quiet s))
    ∧ (∀ c, s.link.rxEnabled = false → exec (.frameFailure c) s = .next s)
    ∧ (s.link.rxTimer = some s.time → exec .interByteGapExpiry s = .next failed)
    ∧ (∀ t, s.link.rxTimer = some t → t ≠ s.time → (t - s.time).toNat ≤ 65535000 → exec .interByteGapExpiry s = .next s)
    ∧ (s.link.rxTimer = none → exec .interByteGapExpiry s = .next s)

/-- TRANSMISSION_COMPLETION, by the frame completed: START clears its flag; an answer's order leaves the window, and a RESTART's
begins the reset; a NOTICE raises its entry's sent count and, while the entry is NOTIFIED, starts its answer timer; a NOTICE without
its entry (R68; log 23) and an OVERDUE change no block. The transmitter then falls idle and its arbiter runs (R68, R127, R128, R134).
The last stop bit ends at the reading of log 7, rounded down; that the row leaves the state before that reading, and while nothing is
sent, is the model's choice (log 4, 5). -/
def Obligations.TransmissionCompletionIsHandedOn : Prop :=
  ∀ s : State,
    (∀ x : Sending, s.link.tx = some x → x.ends = s.time →
      (x.origin = .start → exec .transmissionCompletion s
        = .next ({ s with link := { s.link with tx := none, startPending := false } } : State).transmit)
      ∧ (∀ o, x.origin = .answer o false → exec .transmissionCompletion s
        = .next ({ s with link := { s.link with tx := none, window := s.link.window.erase o } } : State).transmit)
      ∧ (∀ o, x.origin = .answer o true → exec .transmissionCompletion s = .next (s.beginReset .restart))
      ∧ (∀ pre e post, x.origin = .notice (some e.number) → s.dispatcher.entries = pre ++ e :: post →
          (∀ y ∈ pre ++ post, y.number ≠ e.number) → exec .transmissionCompletion s
        = .next ({ s with
            link := { s.link with tx := none }
            dispatcher := { s.dispatcher with entries := pre ++ [({ e with
              sent := e.sent + 1
              answerTimer := if e.state = .notified then some (s.time + BitVec.ofNat 32 (s.session.answerTimeout.toNat * 1000))
                else e.answerTimer } : NoticeEntry)] ++ post } } : State).transmit)
      ∧ (x.origin = .notice none ∨ x.origin = .overdue → exec .transmissionCompletion s
        = .next ({ s with link := { s.link with tx := none } } : State).transmit))
    ∧ (∀ x : Sending, s.link.tx = some x → x.ends ≠ s.time → (x.ends - s.time).toNat ≤ 65535000 →
        exec .transmissionCompletion s = .next s)
    ∧ (s.link.tx = none → exec .transmissionCompletion s = .next s)

/-- STATUS is answered OK with the 26 bytes of R132 and R167, read at its arrival, and changes nothing else. -/
def Obligations.StatusReportsTheWholePart : Prop :=
  ∀ (tag : Byte) (s : State), s.admits →
    exec (.status tag []) s = .next (s.answered { kind := 0x01, tag := tag } .ok
      ([s.store.resetCause.code, s.store.bootOutcome.code, if s.session.up then 1 else 0, s.session.endCause.code,
        s.session.credit, s.session.answerTimeout, s.session.retryLimit, s.session.nesting.code,
        byteOf s.dispatcher.entries.length, if s.alarm then 1 else 0]
       ++ be16 (classSet fun c => (s.klass c).late) ++ [byteOf s.journal.records.length] ++ be32 s.journal.oldest
       ++ be32 s.journal.next ++ be16 s.link.frameErrors ++ s.store.operation.bytes ++ [numberByte s.store.boot])).transmit

/-- ECHO of 0 to 54 bytes is answered OK with those bytes and the timestamp, a longer one MALFORMED, and neither changes anything
else (R133). A frame whose kind is not 0x01 to 0x17 is answered UNKNOWN with the kind received (R121 step 2, R125). -/
def Obligations.EchoAndUnknownKindAreAnsweredAtOnce : Prop :=
  (∀ (tag : Byte) (payload : List Byte) (s : State), s.admits → payload.length ≤ 54 →
    exec (.echo tag payload) s
      = .next (s.answered { kind := 0x02, tag := tag } .ok (payload ++ be32 s.time)).transmit)
  ∧ (∀ (tag : Byte) (payload : List Byte) (s : State), s.admits → 55 ≤ payload.length →
    exec (.echo tag payload) s
      = .next (s.answered { kind := 0x02, tag := tag } .malformed [byteOf payload.length]).transmit)
  ∧ (∀ (kind tag : Byte) (payload : List Byte) (s : State), s.admits → isOrderCode kind = false →
    exec (.unknownKind kind tag payload) s
      = .next (s.answered { kind := kind, tag := tag } .unknown [kind]).transmit)

/-- GET-LINES, GET-PROFILES and RESTART are answered OK at their arrival with the fields of R16, R157 and R159, and change nothing
else (R167). -/
def Obligations.GetLinesGetProfilesAndRestartAreReads : Prop :=
  ∀ (tag : Byte) (s : State), s.admits →
    exec (.getLines tag []) s = .next (s.answered { kind := 0x0F, tag := tag } .ok
      (be32 (sourceSet fun i => decide ((s.src i).qualified = .high)) ++ be32 (sourceSet s.contributes)
        ++ allSources.map fun i => (s.src i).count)).transmit
    ∧ exec (.getProfiles tag []) s = .next (s.answered { kind := 0x16, tag := tag } .ok
      ((allSlots.map fun n => (s.store.slot n).code) ++ (allSlots.flatMap fun n => be32 (s.store.slot n).generation)
        ++ be32 s.store.generation ++ [numberByte s.store.boot] ++ s.store.operation.bytes)).transmit
    ∧ exec (.restart tag []) s = .next (s.answered { kind := 0x17, tag := tag } .ok s.store.operation.bytes).transmit

/-! ### Sources -/

/-- RAW_LEVEL_CHANGE and QUALIFICATION_TIMER_EXPIRY (R3, R4, R5): a change away from the qualified level starts the timer with the
source's qualification, or with 0 is a qualified transition at once; a change back stops it; in reset the change is not taken; at
the expiry the qualified level moves to the timer's target. A timer that is stopped or has not run its length does not expire (R2):
the row then leaves the state, which is the model's choice (log 4). A rate strap takes its level, by the same row (log 3), and the rate in
use stays (R115). -/
def Obligations.SourceLinesAreQualified : Prop :=
  ∀ (i : SourceNo) (v : Level) (s : State),
    let seen : SourceRecord := { s.src i with raw := v }
    exec (.rawLevelChange .rateB v) s = .next { s with link := { s.link with rateB := decide (v = .high) } }
    ∧ exec (.rawLevelChange .rateA v) s = .next { s with link := { s.link with rateA := decide (v = .high) } }
    ∧ ((s.src i).raw = v → exec (.rawLevelChange (.source i) v) s = .next s)
    ∧ ((s.src i).raw ≠ v → s.power.inReset = true → exec (.rawLevelChange (.source i) v) s = .next (s.setSrc i seen))
    ∧ ((s.src i).raw ≠ v → s.power.inReset = false → (s.src i).timer = none → v ≠ (s.src i).qualified →
        (s.steer i).qualification ≠ 0 →
        exec (.rawLevelChange (.source i) v) s = .next (s.setSrc i { seen with
          timer := some { target := v, expiry := s.time + BitVec.ofNat 32 ((s.steer i).qualification.val * 20) } }))
    ∧ ((s.src i).raw ≠ v → s.power.inReset = false → (s.src i).timer = none → v ≠ (s.src i).qualified →
        (s.steer i).qualification = 0 → exec (.rawLevelChange (.source i) v) s = .next ((s.setSrc i seen).transition i v))
    ∧ ((s.src i).raw ≠ v → s.power.inReset = false → (s.src i).timer.isSome → v = (s.src i).qualified →
        exec (.rawLevelChange (.source i) v) s = .next (s.setSrc i { seen with timer := none }))
    ∧ (∀ x, (s.src i).timer = some x → x.expiry = s.time → exec (.qualificationTimerExpiry i) s
        = .next ((s.setSrc i { s.src i with timer := none }).transition i x.target))
    ∧ (∀ x, (s.src i).timer = some x → x.expiry ≠ s.time → (x.expiry - s.time).toNat ≤ 65535000 →
        exec (.qualificationTimerExpiry i) s = .next s)
    ∧ ((s.src i).timer = none → exec (.qualificationTimerExpiry i) s = .next s)

/-- A qualified transition moves the qualified level, and its source's mode decides the rest (R6): nothing in OFF, or in an edge
mode against its direction; an assertion event in an edge mode (R7), reported only when the latch was clear and the source is steered
to a class (R10, R11); in a level mode the live flag is re-derived, and a change of it is counted, journalled under the source's
option and reported, a withdrawal being told to the Grant Line Unit too (R8, R94, R106). -/
def Obligations.QualifiedTransitionsActByMode : Prop :=
  ∀ (i : SourceNo) (v : Level) (s : State),
    let r := s.src i
    let e := s.steer i
    let moved : SourceRecord := { r with qualified := v }
    let up : Byte := if r.count = 255 then 255 else r.count + 1
    let record := fun (k : RecordKind) (n : Option (BitVec 32)) =>
      if e.journal then [({ time := s.time, kind := k, source := some i, cls := e.cls, count := n } : RecordBody)] else []
    let report := fun (b : Bool) =>
      match e.cls with
      | some c => [({ source := i, cls := c, contributes := b } : Report)]
      | none => []
    let active := (e.mode = .levelHigh ∧ v = .high) ∨ (e.mode = .levelLow ∧ v = .low) ∨ r.forced = true
    (e.mode = .off ∨ (e.mode = .rise ∧ v = .low) ∨ (e.mode = .fall ∧ v = .high) → s.transition i v = s.setSrc i moved)
    ∧ (e.mode = .both ∨ (e.mode = .rise ∧ v = .high) ∨ (e.mode = .fall ∧ v = .low) → s.transition i v
        = { s.setSrc i { moved with latch := true, count := up } with
            flight := { s.flight with
              arrivals := s.flight.arrivals ++ record .assert (some (up.zeroExtend 32))
              reports := s.flight.reports ++ (if r.latch then [] else report true) } })
    ∧ (e.mode = .levelHigh ∨ e.mode = .levelLow → (active ↔ r.live = true) → s.transition i v = s.setSrc i moved)
    ∧ (e.mode = .levelHigh ∨ e.mode = .levelLow → active → r.live = false → s.transition i v
        = { s.setSrc i { moved with live := true, count := up } with
            flight := { s.flight with
              arrivals := s.flight.arrivals ++ record .assert (some (up.zeroExtend 32))
              reports := s.flight.reports ++ report true } })
    ∧ (e.mode = .levelHigh ∨ e.mode = .levelLow → ¬ active → r.live = true → s.transition i v
        = { s.setSrc i { moved with live := false } with
            flight := { s.flight with
              arrivals := s.flight.arrivals ++ record .withdraw none
              reports := s.flight.reports ++ report false
              withdrawals := s.flight.withdrawals ++ [i] } })

/-- An accepted FORCE acts by R15 and is answered OK with the source's state after it (R14, R167): PULSE is one assertion event; ON
and OFF set and clear the forced flag and re-derive the live flag. The statement says what each does to the source record, and that
nothing outside that record, the messages in flight and the link changes. -/
def Obligations.ForceAcceptedActsOnTheSource : Prop :=
  ∀ (tag b : Byte) (i : SourceNo) (s : State), s.admits → b.toNat = i.val →
    let r := s.src i
    let e := s.steer i
    let up : Byte := if r.count = 255 then 255 else r.count + 1
    let fields := fun (x : SourceRecord) =>
      [b, e.mode.code,
       flagByte (decide (x.qualified = .high)) ||| (flagByte x.forced <<< 1) ||| (flagByte (contributesIn e.mode x) <<< 2), x.count]
    let record := fun (k : RecordKind) (n : Option (BitVec 32)) =>
      if e.journal then [({ time := s.time, kind := k, source := some i, cls := e.cls, count := n } : RecordBody)] else []
    let report := fun (v : Bool) =>
      match e.cls with
      | some c => [({ source := i, cls := c, contributes := v } : Report)]
      | none => []
    let done := fun (x : SourceRecord) (records : List RecordBody) (reports : List Report) (withdrawn : List SourceNo) =>
      (Host.Outcome.next ((({ s.setSrc i x with flight := { s.flight with
        arrivals := s.flight.arrivals ++ records
        reports := s.flight.reports ++ reports
        withdrawals := s.flight.withdrawals ++ withdrawn } } : State).answered
          { kind := 0x10, tag := tag } .ok (fields x)).transmit) : Host.Outcome State Fault Refusal)
    let levelActive := (e.mode = .levelHigh ∧ r.qualified = .high) ∨ (e.mode = .levelLow ∧ r.qualified = .low)
    (e.mode.isEdge = true → exec (.forcePulse tag [b, 1]) s
      = done { r with latch := true, count := up } (record .assertForced (some (up.zeroExtend 32)))
          (if r.latch then [] else report true) [])
    ∧ (e.mode.isLevel = true → r.live = false → exec (.forceOn tag [b, 2]) s
      = done { r with forced := true, live := true, count := up } (record .assertForced (some (up.zeroExtend 32)))
          (report true) [])
    ∧ (e.mode.isLevel = true → r.live = true → exec (.forceOn tag [b, 2]) s = done { r with forced := true } [] [] [])
    ∧ (e.mode.isLevel = true → r.live = true → ¬ levelActive → exec (.forceOff tag [b, 3]) s
      = done { r with forced := false, live := false } (record .withdraw none) (report false) [i])
    ∧ (e.mode.isLevel = true → (r.live = true ↔ levelActive) → exec (.forceOff tag [b, 3]) s
      = done { r with forced := false } [] [] [])

/-- A refused FORCE changes no source record (R14): RANGE beyond S31, for another action than the three or for one that does not fit
the mode; WRONG-STATE in mode OFF. Its answer carries the source's state, or the values of R14 beyond S31. -/
def Obligations.ForceRefusedChangesNothing : Prop :=
  ∀ (tag b a : Byte) (s : State), s.admits →
    let refused := fun (r : Result) (fields : List Byte) =>
      (Host.Outcome.next (s.answered { kind := 0x10, tag := tag } r fields).transmit : Host.Outcome State Fault Refusal)
    let fields := fun (i : SourceNo) =>
      [b, (s.steer i).mode.code,
       flagByte (decide ((s.src i).qualified = .high)) ||| (flagByte (s.src i).forced <<< 1)
         ||| (flagByte (s.contributes i) <<< 2), (s.src i).count]
    ∀ row ∈ [Instr.forcePulse tag [b, a], .forceOn tag [b, a], .forceOff tag [b, a]],
      (32 ≤ b.toNat → exec row s = refused .range [b, 0, 0, 0])
      ∧ (∀ i : SourceNo, b.toNat = i.val → a ≠ 1 → a ≠ 2 → a ≠ 3 → exec row s = refused .range (fields i))
      ∧ (∀ i : SourceNo, b.toNat = i.val → a = 1 ∨ a = 2 ∨ a = 3 → (s.steer i).mode = .off →
          exec row s = refused .wrongState (fields i))
      ∧ (∀ i : SourceNo, b.toNat = i.val →
          (a = 1 ∧ (s.steer i).mode.isLevel = true) ∨ ((a = 2 ∨ a = 3) ∧ (s.steer i).mode.isEdge = true) →
          exec row s = refused .range (fields i))

/-! ### Steering -/

/-- An accepted SET-STEER replaces the entry and, when the mode or the class changes, clears the source's record (R23, R9); the old
class and the new are re-evaluated under the new table (R24); it is answered OK with the new entry (R22), and the dispatch arbiter,
ATTN and the transmitter follow. Requests already handed to the Grant Line Unit are taken first (R26; log 13), and the reports of the
source that were not yet taken are superseded when mode or class changes (log 14). -/
def Obligations.SetSteerAcceptedReplacesTheEntry : Prop :=
  ∀ (tag b m c q j : Byte) (i : SourceNo) (e : SteerEntry) (s : State), s.admits → b.toNat = i.val →
    steerEntry? m c q j = some e →
    (∀ k, (s.steer i).cls = some k → (s.klass k).state.inFlight = false) →
    (∀ k, e.cls = some k → ∀ n, n ≠ i → (s.steer n).cls = some k → e.mode.isEdge = false ∧ (s.steer n).mode.isEdge = false) →
    let kept := (s.steer i).mode = e.mode ∧ (s.steer i).cls = e.cls
    let w := s.takeAsks
    let u : State := { w with
      steering := s.steering.set i e
      sources := if kept then s.sources else s.sources.set i ({ s.src i with
        latch := false, count := 0, forced := false, live := liveValue e.mode (s.src i).qualified false } : SourceRecord)
      flight := { w.flight with
        reports := if kept then s.flight.reports else s.flight.reports.filter fun r => r.source != i } }
    let v : State := { u with classes := Vector.ofFn fun k =>
      if (s.steer i).cls = some k ∨ e.cls = some k then (s.klass k).reevaluate s.time (u.contributors k) else s.klass k }
    exec (.setSteer tag [b, m, c, q, j]) s
      = .next ((v.answered { kind := 0x08, tag := tag } .ok (b :: e.bytes)).dispatch.evalAttn).transmitJoined

/-- A refused SET-STEER changes nothing: RANGE, IN-USE, CONFLICT in the order of R20 and R21, answered with the standing entry and
the further fields of R22. -/
def Obligations.SetSteerRefusedChangesNothing : Prop :=
  ∀ (tag b m c q j : Byte) (s : State), s.admits →
    let refused := fun (r : Result) (fields : List Byte) =>
      (Host.Outcome.next (s.answered { kind := 0x08, tag := tag } r fields).transmit : Host.Outcome State Fault Refusal)
    (32 ≤ b.toNat → exec (.setSteer tag [b, m, c, q, j]) s = refused .range [b, 0, 0xFF, 0, 0])
    ∧ (∀ i : SourceNo, b.toNat = i.val → 5 < m.toNat ∨ (15 < c.toNat ∧ c ≠ 0xFF) ∨ 15 < q.toNat ∨ 1 < j.toNat →
        exec (.setSteer tag [b, m, c, q, j]) s = refused .range (b :: (s.steer i).bytes))
    ∧ (∀ (i : SourceNo) (e : SteerEntry) (k : ClassNo), b.toNat = i.val → steerEntry? m c q j = some e →
        (s.steer i).cls = some k → (s.klass k).state.inFlight = true →
        exec (.setSteer tag [b, m, c, q, j]) s
          = refused .inUse (b :: (s.steer i).bytes ++ [byteOf k.val, (s.klass k).state.code]))
    ∧ (∀ (i n : SourceNo) (e : SteerEntry) (k : ClassNo), b.toNat = i.val → steerEntry? m c q j = some e →
        (∀ x, (s.steer i).cls = some x → (s.klass x).state.inFlight = false) → e.cls = some k →
        n ≠ i → (s.steer n).cls = some k → e.mode.isEdge = true → (∀ x, x < n → x ≠ i → (s.steer x).cls ≠ some k) →
        exec (.setSteer tag [b, m, c, q, j]) s
          = refused .conflict (b :: (s.steer i).bytes ++ [byteOf k.val, byteOf n.val]))
    ∧ (∀ (i n : SourceNo) (e : SteerEntry) (k : ClassNo), b.toNat = i.val → steerEntry? m c q j = some e →
        (∀ x, (s.steer i).cls = some x → (s.klass x).state.inFlight = false) → e.cls = some k →
        n ≠ i → (s.steer n).cls = some k → e.mode.isEdge = false → (s.steer n).mode.isEdge = true →
        (∀ x, x < n → x ≠ i → (s.steer x).cls = some k → (s.steer x).mode.isEdge = false) →
        exec (.setSteer tag [b, m, c, q, j]) s
          = refused .conflict (b :: (s.steer i).bytes ++ [byteOf k.val, byteOf n.val]))

/-- GET-STEER and GET-CLASS are reads: answered OK with the fields of R30 and R56 (R167), or RANGE with the number as received; they
change nothing else. -/
def Obligations.GetSteerAndGetClassAreReads : Prop :=
  ∀ (tag b : Byte) (s : State), s.admits →
    let steered := fun (r : Result) (fields : List Byte) =>
      (Host.Outcome.next (s.answered { kind := 0x09, tag := tag } r fields).transmit : Host.Outcome State Fault Refusal)
    let remaining := fun (t : Option Time) =>
      be16 (match t with
        | some t => if reached s.time t then 0 else BitVec.ofNat 16 (((t - s.time).toNat + 999) / 1000)
        | none => 0)
    (32 ≤ b.toNat → exec (.getSteer tag [b]) s = steered .range [b])
    ∧ (∀ (i : SourceNo) (g : LineNo), b.toNat = i.val → (s.line g).pairing.source = some i →
        (∀ h, h < g → (s.line h).pairing.source ≠ some i) →
        exec (.getSteer tag [b]) s = steered .ok (b :: (s.steer i).bytes ++ [byteOf g.val]))
    ∧ (∀ i : SourceNo, b.toNat = i.val → (∀ g, (s.line g).pairing.source ≠ some i) →
        exec (.getSteer tag [b]) s = steered .ok (b :: (s.steer i).bytes ++ [0xFF]))
    ∧ (16 ≤ b.toNat → exec (.getClass tag [b]) s
        = .next (s.answered { kind := 0x0B, tag := tag } .range [b]).transmit)
    ∧ (∀ c : ClassNo, b.toNat = c.val →
        let r := s.klass c
        exec (.getClass tag [b]) s = .next (s.answered { kind := 0x0B, tag := tag } .ok
          (b :: [flagByte r.settings.masked, flagByte r.settings.critical] ++ be16 r.settings.deadline ++ be16 r.settings.limit
            ++ [r.state.code, flagByte r.late,
                flagByte r.firstPending.isSome ||| (flagByte r.deadlineTimer.isSome <<< 1)
                  ||| (flagByte r.holdTimer.isSome <<< 2)]
            ++ be32 (r.firstPending.getD 0) ++ remaining r.deadlineTimer ++ remaining r.holdTimer ++ [s.noticeOf c]
            ++ be32 (sourceSet fun i => decide ((s.steer i).cls = some c))
            ++ be32 (sourceSet fun i => decide ((s.steer i).cls = some c) && s.contributes i))).transmit)

/-! ### Classes -/

/-- What a class record becomes as it enters IDLE (R33), or PENDING by a fresh or a continued entry (R34), and what a re-evaluation
(R24) and a report (R31, R35, R36) make of it in each state. That in IDLE a report adds or removes the source it names, without a
reading of the others, is the model's reading (log 15). -/
def Obligations.ClassRecordsMoveByTheRulesOfEntry : Prop :=
  ∀ (r : ClassRecord) (now : Time) (i : SourceNo) (found : List SourceNo),
    let idle : ClassRecord :=
      { settings := r.settings, state := .idle, late := false, firstPending := none, deadlineTimer := none, holdTimer := none,
        reported := [] }
    let fresh := fun (l : List SourceNo) => ({ r with
      state := .pending, late := false, firstPending := some now, reported := l
      deadlineTimer := if r.settings.critical then some (now + BitVec.ofNat 32 (r.settings.deadline.toNat * 1000)) else none } :
        ClassRecord)
    (r.enterIdle = idle ∧ r.enterFresh now found = fresh found
      ∧ r.enterContinued found = { r with state := .pending, holdTimer := none, reported := found })
    ∧ (r.settleFresh now [] = idle ∧ r.settleContinued [] = idle)
    ∧ (found ≠ [] → r.settleFresh now found = fresh found ∧ r.settleContinued found = r.enterContinued found)
    ∧ (r.state = .idle →
        r.reevaluate now [] = idle ∧ (found ≠ [] → r.reevaluate now found = fresh found)
        ∧ (r.reported = [] → r.reportOn now i = fresh [i])
        ∧ (r.reported = [] → r.reportOff i found = r))
    ∧ (r.state = .pending →
        r.reevaluate now [] = idle ∧ (found ≠ [] → r.reevaluate now found = { r with reported := found })
        ∧ r.reportOn now i = { r with reported := allSources.filter fun j => j == i || r.reported.contains j }
        ∧ r.reportOff i [] = idle ∧ (found ≠ [] → r.reportOff i found = { r with reported := found }))
    ∧ (r.state ≠ .idle → r.state ≠ .pending →
        r.reevaluate now found = r ∧ r.reportOn now i = r ∧ r.reportOff i found = r)

/-- CONTRIBUTION_REPORT: the oldest untaken report of the source is taken by the class it names, and the dispatch arbiter, ATTN and
the transmitter follow (R32, R35, R36, R41, R63). That the untaken reports of a source wait and are taken oldest first is the model's
reading (log 10), and what a report does to the reported set is log 15's; with none untaken the row leaves the state, which is the
model's choice (log 4). -/
def Obligations.ContributionReportsReachTheirClass : Prop :=
  ∀ (i : SourceNo) (s : State),
    (∀ pre r post, s.flight.reports = pre ++ r :: post → r.source = i → (∀ x ∈ pre, x.source ≠ i) →
      exec (.contributionReport i) s
        = .next ({ s with
            flight := { s.flight with reports := pre ++ post }
            classes := s.classes.set r.cls
              (if r.contributes then (s.klass r.cls).reportOn s.time i
               else (s.klass r.cls).reportOff i (s.contributors r.cls)) } : State).dispatch.evalAttn.transmit)
    ∧ ((∀ r ∈ s.flight.reports, r.source ≠ i) → exec (.contributionReport i) s = .next s)

/-- DEADLINE_EXPIRY marks the class late, asserts ALARM and hands CRITICAL-LATE, and changes nothing else (R47). HOLD_EXPIRY reads
the class, which goes to PENDING by a continued entry or to IDLE (R40). A timer that is stopped or has not run its length does not
expire (R2): the row then leaves the state, which is the model's choice (log 4). -/
def Obligations.ClassTimersExpire : Prop :=
  ∀ (c : ClassNo) (s : State),
    ((s.klass c).deadlineTimer = some s.time → exec (.deadlineExpiry c) s = .next { s with
        alarm := true
        classes := s.classes.set c { s.klass c with deadlineTimer := none, late := true }
        flight := { s.flight with
          arrivals := s.flight.arrivals ++ [{ time := s.time, kind := .criticalLate, cls := some c }] } })
    ∧ ((s.klass c).holdTimer = some s.time → exec (.holdExpiry c) s
        = .next ({ s with classes := s.classes.set c ((s.klass c).settleContinued (s.contributors c)) } :
            State).dispatch.evalAttn.transmit)
    ∧ (∀ x ∈ [(Instr.deadlineExpiry c, (s.klass c).deadlineTimer), (.holdExpiry c, (s.klass c).holdTimer)],
        (∀ t, x.2 = some t → t ≠ s.time → (t - s.time).toNat ≤ 65535000 → exec x.1 s = .next s)
        ∧ (x.2 = none → exec x.1 s = .next s))

/-- SET-CLASS (R53, R54): refused with RANGE, or with IN-USE while the class has a notice, it changes nothing; accepted, it replaces
the settings and starts or stops the deadline by R54, and the dispatch arbiter, ATTN and the transmitter follow. -/
def Obligations.SetClassFollowsR53AndR54 : Prop :=
  ∀ (tag b m k d1 d0 l1 l0 : Byte) (s : State), s.admits →
    let row := Instr.setClass tag [b, m, k, d1, d0, l1, l0]
    let refused := fun (r : Result) (fields : List Byte) =>
      (Host.Outcome.next (s.answered { kind := 0x0A, tag := tag } r fields).transmit : Host.Outcome State Fault Refusal)
    (16 ≤ b.toNat → exec row s = refused .range [b, 0, 0, 0x03, 0xE8, 0, 0])
    ∧ (∀ c : ClassNo, b.toNat = c.val →
      (1 < m.toNat ∨ 1 < k.toNat ∨ (d1 = 0 ∧ d0 = 0) → exec row s = refused .range (b :: (s.klass c).settings.bytes))
      ∧ (m.toNat ≤ 1 → k.toNat ≤ 1 → d1 ≠ 0 ∨ d0 ≠ 0 → (s.klass c).state.inFlight = true →
          exec row s = refused .inUse (b :: (s.klass c).settings.bytes ++ [(s.klass c).state.code, s.noticeOf c]))
      ∧ (m.toNat ≤ 1 → k.toNat ≤ 1 → d1 ≠ 0 ∨ d0 ≠ 0 → (s.klass c).state.inFlight = false →
          let r := s.klass c
          let x : ClassSettings := { masked := m == 1, critical := k == 1, deadline := d1 ++ d0, limit := l1 ++ l0 }
          let starts := x.critical = true ∧ r.settings.critical = false ∧ (r.state = .pending ∨ r.state = .held)
          let stops := x.critical = false ∧ r.settings.critical = true
          exec row s = .next ((({ s with classes := s.classes.set c ({ r with
              settings := x
              deadlineTimer := if starts then some (s.time + BitVec.ofNat 32 ((d1 ++ d0).toNat * 1000))
                else if stops then none else r.deadlineTimer
              late := if starts ∨ stops then false else r.late } : ClassRecord) } : State).answered
                { kind := 0x0A, tag := tag } .ok [b, m, k, d1, d0, l1, l0]).dispatch.evalAttn).transmitJoined))

/-- MASK (R44): SET masks and CLEAR unmasks every selected class and leaves the others, answered OK with all sixteen mask settings;
any other action is answered RANGE and changes no mask. After SET ATTN is evaluated; after CLEAR the dispatch arbiter runs as
well (R41, R63). -/
def Obligations.MaskActsOnTheSelectedClasses : Prop :=
  ∀ (tag hi lo : Byte) (s : State), s.admits →
    let masked := fun (v : Bool) => ({ s with
      classes := Vector.ofFn fun c =>
        if (hi ++ lo).getLsbD c.val then { s.klass c with settings := { (s.klass c).settings with masked := v } }
        else s.klass c } : State)
    let fields := fun (u : State) => be16 (classSet fun c => (u.klass c).settings.masked)
    exec (.maskSet tag [hi, lo, 1]) s
      = .next ((masked true).evalAttn.answered { kind := 0x0C, tag := tag } .ok (fields (masked true))).transmit
    ∧ exec (.maskClear tag [hi, lo, 2]) s
      = .next (((masked false).answered { kind := 0x0C, tag := tag } .ok
          (fields (masked false))).dispatch.evalAttn).transmitJoined
    ∧ (∀ a : Byte, a ≠ 1 → a ≠ 2 → ∀ row ∈ [Instr.maskSet tag [hi, lo, a], .maskClear tag [hi, lo, a]],
        exec row s = .next (s.answered { kind := 0x0C, tag := tag } .range (fields s)).transmit)

/-- CLEAR-ALARM (R51): refused while a class is late; otherwise ALARM is deasserted, with ALARM-CLEARED handed when it was
asserted. -/
def Obligations.ClearAlarmFollowsTheLateFlags : Prop :=
  ∀ (tag : Byte) (s : State), s.admits →
    let o : Order := { kind := 0x0D, tag := tag }
    let late := be16 (classSet fun c => (s.klass c).late)
    (∀ c, (s.klass c).late = true →
      exec (.clearAlarm tag []) s = .next (s.answered o .refused (flagByte s.alarm :: late)).transmit)
    ∧ ((∀ c, (s.klass c).late = false) → s.alarm = true →
        exec (.clearAlarm tag []) s = .next (({ s with
          alarm := false
          flight := { s.flight with arrivals := s.flight.arrivals ++ [{ time := s.time, kind := .alarmCleared }] } } :
            State).answered o .ok [0, 0, 0]).transmit)
    ∧ ((∀ c, (s.klass c).late = false) → s.alarm = false →
        exec (.clearAlarm tag []) s = .next (s.answered o .ok [0, 0, 0]).transmit)

/-! ### Notices -/

/-- The arbiter creates a notice for an eligible class (R64): the number is the first from the counter that no entry carries, the
counter goes past it (R65); the entry is NOTIFIED with nothing sent, its send list the reported contributions; the class goes to
NOTIFIED; NOTICE is handed; the first frame joins the notice send list (R66, R67). A class that is not eligible is left. -/
def Obligations.NoticeCreationFollowsR64AndR65 : Prop :=
  ∀ (c : ClassNo) (s : State),
    (s.eligible c = false → s.dispatchAt c = s)
    ∧ (s.eligible c = true → s.dispatcher.nextNumber ≠ 0 →
        ∃ (k : Nat) (n : Byte), n = nextNumber^[k] s.dispatcher.nextNumber ∧ n ≠ 0
          ∧ (∀ e ∈ s.dispatcher.entries, e.number ≠ n)
          ∧ (∀ j, j < k → ∃ e ∈ s.dispatcher.entries, e.number = nextNumber^[j] s.dispatcher.nextNumber)
          ∧ s.dispatchAt c = { s with
              dispatcher :=
                { entries := s.dispatcher.entries ++ [
                    { number := n, cls := c, state := .notified, sent := 0, sendList := (s.klass c).reported
                      firstPending := (s.klass c).firstPending.getD 0, critical := (s.klass c).settings.critical
                      claimList := none, claimTime := none, answerTimer := none, serviceTimer := none }]
                  nextNumber := if n = 255 then 1 else n + 1
                  sendList := s.dispatcher.sendList ++ [
                    { notice := n, cls := c, kind := .first
                      payload := [n, byteOf c.val, if (s.klass c).settings.critical then 2 else 0]
                        ++ be32 ((s.klass c).firstPending.getD 0)
                        ++ be32 (sourceSet fun i => decide (i ∈ (s.klass c).reported)) }] }
              classes := s.classes.set c { s.klass c with state := .notified }
              flight := { s.flight with arrivals := s.flight.arrivals ++
                [{ time := s.time, kind := .notice, cls := some c, notice := some n }] } })

/-- A run of the dispatch arbiter (R63): while a class is eligible (R61) it takes the lowest-numbered one that is, and goes on from the
state that its notice leaves; with none eligible it ends, and changes nothing. So it leaves none eligible, the classes taken are offered
and in ascending order, and nothing is touched but the table, the notice send list, the classes noticed and the records handed. -/
def Obligations.DispatchRunLeavesNoClassEligible : Prop :=
  ∀ s : State,
    ((∀ c, s.eligible c = false) → s.dispatch = s)
    ∧ (∀ c, s.eligible c = true → (∀ d, d < c → s.eligible d = false) → s.dispatch = (s.dispatchAt c).dispatch)
    ∧ (∀ c, s.dispatch.eligible c = false)
    ∧ (∃ new : List NoticeEntry, s.dispatch.dispatcher.entries = s.dispatcher.entries ++ new
        ∧ (new.map (·.cls)).Pairwise (· < ·)
        ∧ (∀ e ∈ new, (s.klass e.cls).offered = true ∧ e.state = .notified
            ∧ s.dispatch.klass e.cls = { s.klass e.cls with state := .notified })
        ∧ (∀ c, (∀ e ∈ new, e.cls ≠ c) → s.dispatch.klass c = s.klass c)
        ∧ s.dispatch.flight.arrivals = s.flight.arrivals ++ new.map fun e =>
            { time := s.time, kind := .notice, cls := some e.cls, notice := some e.number })
    ∧ s.dispatch = { s with
        dispatcher := s.dispatch.dispatcher, classes := s.dispatch.classes
        flight := { s.flight with arrivals := s.dispatch.flight.arrivals } }

/-- CLAIM of a NOTIFIED entry (R73, R74, R12): the claim list is the contributing members with their counts; the entry goes
IN-SERVICE with its service timer by the class's limit, its queued frame leaves the send list; the listed sources are cleared, a
vanished edge contribution is reported; a grant is asked for each listed source that is paired; the class goes IN-SERVICE, its
deadline stopped and its late flag clear; CLAIM is handed with the sum of the counts; the answer is OK with the claim list (R168). No
rule orders the requests of one claim: that they go by source number is the model's choice (log 35). -/
def Obligations.ClaimTakesTheNotice : Prop :=
  ∀ (tag n : Byte) (pre : List NoticeEntry) (e : NoticeEntry) (post : List NoticeEntry) (s : State), s.admits →
    s.flight.loss = none → s.session.up = true → n ≠ 0 → s.dispatcher.entries = pre ++ e :: post → e.number = n →
    (∀ x ∈ pre ++ post, x.number ≠ n) → e.state = .notified →
    let c := e.cls
    let r := s.klass c
    let found := s.contributors c
    let list := found.map fun i => ({ source := i, count := (s.src i).count } : ClaimItem)
    exec (.claim tag [n]) s = .next (({ s with
      dispatcher := { s.dispatcher with
        entries := pre ++ [({ e with
          state := .inService, claimList := some list, claimTime := some s.time, answerTimer := none
          serviceTimer := if r.settings.limit = 0 then none
            else some (s.time + BitVec.ofNat 32 (r.settings.limit.toNat * 1000)) } : NoticeEntry)] ++ post
        sendList := s.dispatcher.sendList.filter fun f => f.notice != n }
      sources := Vector.ofFn fun i =>
        if i ∈ found then
          if (s.steer i).mode.isEdge then { s.src i with latch := false, count := 0 } else { s.src i with count := 0 }
        else s.src i
      classes := s.classes.set c { r with state := .inService, deadlineTimer := none, late := false }
      session := { s.session with attn := false }
      flight := { s.flight with
        reports := s.flight.reports ++ (found.filter fun i => (s.steer i).mode.isEdge).map
          fun i => { source := i, cls := c, contributes := false }
        asks := s.flight.asks ++ (found.filter fun i => decide (∃ g, (s.line g).pairing.source = some i)).map
          fun i => .grant i n
        arrivals := s.flight.arrivals ++ [{ time := s.time, kind := .claim, cls := some c, notice := some n
                                            count := some (BitVec.ofNat 32 ((found.map fun i => (s.src i).count.toNat).sum)) }] } } :
        State).answered { kind := 0x05, tag := tag } .ok
          ([n, byteOf c.val] ++ be32 s.time ++ be32 (sourceSet fun i => decide (i ∈ found))
            ++ found.map fun i => (s.src i).count)).transmit

/-- RELEASE of an entry IN-SERVICE (R75), answered OK, or EXPIRED (R76), answered LATE: the entry and its unsent frames go, a frame
in transmission reaches no entry any more (R68); the end of its grants is asked for unless it had expired; RELEASE or RELEASE-LATE
is handed; the class is read and goes to PENDING by a fresh entry or to IDLE; the dispatch arbiter follows (R63). -/
def Obligations.ReleaseEndsTheService : Prop :=
  ∀ (tag n : Byte) (pre : List NoticeEntry) (e : NoticeEntry) (post : List NoticeEntry) (s : State), s.admits →
    s.flight.loss = none → s.session.up = true → n ≠ 0 → s.dispatcher.entries = pre ++ e :: post → e.number = n →
    (∀ x ∈ pre ++ post, x.number ≠ n) → e.state ≠ .notified →
    let c := e.cls
    exec (.release tag [n]) s = .next ((({ s with
      dispatcher := { s.dispatcher with
        entries := pre ++ post, sendList := s.dispatcher.sendList.filter fun f => f.notice != n }
      classes := s.classes.set c ((s.klass c).settleFresh s.time (s.contributors c))
      link := { s.link with tx := s.link.tx.map fun t =>
        if t.origin = .notice (some n) then { t with origin := .notice none } else t }
      flight := { s.flight with
        asks := s.flight.asks ++ (if e.state = .expired then [] else [.finish n])
        arrivals := s.flight.arrivals ++
          [{ time := s.time, kind := if e.state = .expired then .releaseLate else .release, cls := some c, notice := some n }] } } :
        State).answered { kind := 0x06, tag := tag } (if e.state = .expired then .late else .ok)
          [n, byteOf c.val]).dispatch.evalAttn).transmitJoined

/-- RETURN of a NOTIFIED entry (R77): the entry and its unsent frames go; RETURN is handed with the hold; the class goes to HELD for
the hold, or with a hold of 0 is read and goes to PENDING by a continued entry or to IDLE (R37, R40); the answer is OK and the
dispatch arbiter follows. -/
def Obligations.ReturnGivesTheNoticeBack : Prop :=
  ∀ (tag n hi lo : Byte) (pre : List NoticeEntry) (e : NoticeEntry) (post : List NoticeEntry) (s : State), s.admits →
    s.flight.loss = none → s.session.up = true → n ≠ 0 → s.dispatcher.entries = pre ++ e :: post → e.number = n →
    (∀ x ∈ pre ++ post, x.number ≠ n) → e.state = .notified →
    let c := e.cls
    exec (.returnNotice tag [n, hi, lo]) s = .next ((({ s with
      dispatcher := { s.dispatcher with
        entries := pre ++ post, sendList := s.dispatcher.sendList.filter fun f => f.notice != n }
      classes := s.classes.set c
        (if hi ++ lo = (0 : Half) then (s.klass c).settleContinued (s.contributors c)
         else { s.klass c with
           state := .held, holdTimer := some (s.time + BitVec.ofNat 32 ((hi ++ lo).toNat * 1000)) })
      link := { s.link with tx := s.link.tx.map fun t =>
        if t.origin = .notice (some n) then { t with origin := .notice none } else t }
      flight := { s.flight with arrivals := s.flight.arrivals ++
        [{ time := s.time, kind := .returned, cls := some c, notice := some n
           count := some ((hi ++ lo).zeroExtend 32) }] } } : State).answered { kind := 0x07, tag := tag } .ok
          [n, byteOf c.val]).dispatch.evalAttn).transmitJoined

/-- A refused CLAIM, RELEASE or RETURN changes nothing (R72): NO-SESSION while the session is DOWN, NOT-FOUND where no entry carries
the number, WRONG-STATE with the entry's class and state where its state does not admit the order. -/
def Obligations.SettlementRefusedChangesNothing : Prop :=
  ∀ (tag n hi lo : Byte) (s : State), s.admits → s.flight.loss = none →
    ∀ x ∈ [(Instr.claim tag [n], (0x05 : Byte), [EntryState.inService, .expired]),
           (.release tag [n], 0x06, [.notified]), (.returnNotice tag [n, hi, lo], 0x07, [.inService, .expired])],
      let o : Order := { kind := x.2.1, tag := tag }
      (s.session.up = false → exec x.1 s = .next (s.answered o .noSession [n]).transmit)
      ∧ (s.session.up = true → n = 0 ∨ (∀ e ∈ s.dispatcher.entries, e.number ≠ n) →
          exec x.1 s = .next (s.answered o .notFound [n]).transmit)
      ∧ (s.session.up = true → n ≠ 0 → ∀ pre e post, s.dispatcher.entries = pre ++ e :: post → e.number = n →
          (∀ y ∈ pre, y.number ≠ n) → e.state ∈ x.2.2 →
          exec x.1 s = .next (s.answered o .wrongState [n, byteOf e.cls.val, e.state.code]).transmit)

/-- ANSWER_TIMER_EXPIRY (R70, R71): a repeat NOTICE joins the send list while the sent count is at most the retry limit; beyond it
the loss is handed to the Session Unit, naming the entry's class and number. SERVICE_TIMER_EXPIRY (R79): the entry and its class go
to EXPIRED, the end of the grants is asked for, OVERDUE joins the send list (R80), EXPIRE is handed. A timer that is stopped or has
not run its length does not expire (R2): the row then leaves the state, which is the model's choice (log 4). -/
def Obligations.NoticeTimersExpire : Prop :=
  ∀ (pre : List NoticeEntry) (e : NoticeEntry) (post : List NoticeEntry) (s : State),
    s.dispatcher.entries = pre ++ e :: post → e.number ≠ 0 → (∀ x ∈ pre ++ post, x.number ≠ e.number) →
    (e.answerTimer = some s.time → s.flight.loss = none →
      let entries := pre ++ [({ e with answerTimer := none } : NoticeEntry)] ++ post
      (e.sent ≤ s.session.retryLimit.toNat → exec (.answerTimerExpiry e.number) s
        = .next ({ s with dispatcher := { s.dispatcher with
            entries := entries
            sendList := s.dispatcher.sendList ++ [
              { notice := e.number, cls := e.cls, kind := .again
                payload := [e.number, byteOf e.cls.val, if e.critical then 3 else 1] ++ be32 e.firstPending
                  ++ be32 (sourceSet fun i => decide (i ∈ e.sendList)) }] } } : State).transmit)
      ∧ (s.session.retryLimit.toNat < e.sent → exec (.answerTimerExpiry e.number) s
        = .next { s with
            dispatcher := { s.dispatcher with entries := entries }
            flight := { s.flight with loss := some { cls := e.cls, notice := e.number } } }))
    ∧ (e.serviceTimer = some s.time → exec (.serviceTimerExpiry e.number) s
        = .next ({ s with
            dispatcher := { s.dispatcher with
              entries := pre ++ [({ e with state := .expired, serviceTimer := none } : NoticeEntry)] ++ post
              sendList := s.dispatcher.sendList ++ [
                { notice := e.number, cls := e.cls, kind := .overdue
                  payload := [e.number, byteOf e.cls.val] ++ be32 (e.claimTime.getD 0) }] }
            classes := s.classes.set e.cls { s.klass e.cls with state := .expired }
            flight := { s.flight with
              asks := s.flight.asks ++ [.finish e.number]
              arrivals := s.flight.arrivals ++
                [{ time := s.time, kind := .expire, cls := some e.cls, notice := some e.number }] } } : State).evalAttn.transmit)
    ∧ (s.flight.loss = none →
        (∀ t, e.answerTimer = some t → t ≠ s.time → (t - s.time).toNat ≤ 65535000 → exec (.answerTimerExpiry e.number) s = .next s)
        ∧ (e.answerTimer = none → exec (.answerTimerExpiry e.number) s = .next s))
    ∧ (∀ t, e.serviceTimer = some t → t ≠ s.time → (t - s.time).toNat ≤ 65535000 → exec (.serviceTimerExpiry e.number) s = .next s)
    ∧ (e.serviceTimer = none → exec (.serviceTimerExpiry e.number) s = .next s)

/-! ### Grant lines -/

/-- GRANT_REQUEST (R91, R95): the oldest request, to grant source i under notice n, reaches the line paired with i. End-on-withdraw
turns it into GRANT-END when the source is in a level mode and not live, its withdrawal having been taken; otherwise a READY line is
GRANTED and a line in GUARD waits. GRANT_END_REQUEST (R92): every line whose grant notice is n gives it up, a GRANTED one by way of its
guard. A request of the other kind, or none, is left (R73, requests are taken in the order handed; log 4). Where the withdrawal is told
and not yet taken, the request is the event taken first, and the line is granted (R95; log 32). -/
def Obligations.GrantRequestsActOnTheLines : Prop :=
  ∀ (s : State) (n : Byte) (rest : List GrantAsk),
    let popped : State := { s with flight := { s.flight with asks := rest } }
    (∀ i : SourceNo, s.flight.asks = .grant i n :: rest →
      exec .grantEndRequest s = .next s
      ∧ ((∀ g, (s.line g).pairing.source ≠ some i) → exec .grantRequest s = .next popped)
      ∧ (∀ g, (s.line g).pairing.source = some i → (∀ h, h < g → (s.line h).pairing.source ≠ some i) →
          ((s.line g).pairing.endOnWithdraw = true → (s.steer i).mode.isLevel = true → (s.src i).live = false →
              i ∉ s.flight.withdrawals →
            exec .grantRequest s = .next { popped with flight := { popped.flight with arrivals := s.flight.arrivals ++
              [{ time := s.time, kind := .grantEnd, source := some i, count := some (BitVec.ofNat 32 g.val) }] } })
          ∧ ((s.line g).pairing.endOnWithdraw = false ∨ (s.steer i).mode.isLevel = false ∨ (s.src i).live = true
              ∨ i ∈ s.flight.withdrawals →
            ((s.line g).state = .ready → exec .grantRequest s
              = .next (popped.setLine g { s.line g with state := .granted, notice := some n }))
            ∧ ((s.line g).state = .guarding → exec .grantRequest s
              = .next (popped.setLine g { s.line g with waiting := true, notice := some n }))
            ∧ ((s.line g).state = .granted → exec .grantRequest s = .next popped))))
    ∧ (s.flight.asks = .finish n :: rest →
      exec .grantRequest s = .next s
      ∧ exec .grantEndRequest s = .next { popped with
        lines := s.lines.map fun r =>
          if r.notice = some n ∧ r.state = .granted then
            if r.pairing.guardTime = 0 then { r with state := .ready, notice := none }
            else { r with
              state := .guarding, waiting := false, notice := none
              guardTimer := some (s.time + BitVec.ofNat 32 r.pairing.guardTime.toNat) }
          else if r.notice = some n ∧ r.state = .guarding ∧ r.waiting = true then { r with waiting := false, notice := none }
          else r })
    ∧ (s.flight.asks = [] → exec .grantRequest s = .next s ∧ exec .grantEndRequest s = .next s)

/-- END_ON_WITHDRAW (R94): a withdrawal told and not yet taken ends the grant of the paired line, or clears its waiting flag, with
GRANT-END handed, when the line's option is on and the source is in a level mode; otherwise it has no effect on the lines. Option
and mode are judged as the withdrawal is taken (log 27). With no withdrawal of the source told the row leaves the state, which is the
model's choice (log 4). -/
def Obligations.WithdrawalsEndGrantsWhereSet : Prop :=
  ∀ (s : State) (i : SourceNo),
    let taken : State := { s with flight := { s.flight with withdrawals := s.flight.withdrawals.erase i } }
    (i ∉ s.flight.withdrawals → exec (.endOnWithdraw i) s = .next s)
    ∧ (i ∈ s.flight.withdrawals → (∀ g, (s.line g).pairing.source ≠ some i) → exec (.endOnWithdraw i) s = .next taken)
    ∧ (i ∈ s.flight.withdrawals → ∀ g, (s.line g).pairing.source = some i →
        (∀ h, h < g → (s.line h).pairing.source ≠ some i) →
        let r := s.line g
        let ended := fun (x : LineRecord) => (Host.Outcome.next ({ taken.setLine g x with
          flight := { taken.flight with arrivals := s.flight.arrivals ++
            [{ time := s.time, kind := .grantEnd, source := some i, count := some (BitVec.ofNat 32 g.val) }] } } : State) :
              Host.Outcome State Fault Refusal)
        (r.pairing.endOnWithdraw = false ∨ (s.steer i).mode.isLevel = false ∨ r.state = .unpaired ∨ r.state = .ready
            ∨ (r.state = .guarding ∧ r.waiting = false) → exec (.endOnWithdraw i) s = .next taken)
        ∧ (r.pairing.endOnWithdraw = true → (s.steer i).mode.isLevel = true → r.state = .granted → r.pairing.guardTime = 0 →
            exec (.endOnWithdraw i) s = ended { r with state := .ready, notice := none })
        ∧ (r.pairing.endOnWithdraw = true → (s.steer i).mode.isLevel = true → r.state = .granted → r.pairing.guardTime ≠ 0 →
            exec (.endOnWithdraw i) s = ended { r with
              state := .guarding, waiting := false, notice := none
              guardTimer := some (s.time + BitVec.ofNat 32 r.pairing.guardTime.toNat) })
        ∧ (r.pairing.endOnWithdraw = true → (s.steer i).mode.isLevel = true → r.state = .guarding → r.waiting = true →
            exec (.endOnWithdraw i) s = ended { r with waiting := false, notice := none }))

/-- GUARD_EXPIRY (R93): a waiting line is GRANTED and keeps its notice; another goes to READY if it is paired and to UNPAIRED if
not. A timer that is stopped or has not run its length does not expire (R2): the row then leaves the state, which is the model's choice
(log 4). And the level of a line's output: active in GRANTED, the other level in every other state, low while the part is in reset
(R87). -/
def Obligations.GuardsExpireAndOutputsFollow : Prop :=
  ∀ (g : LineNo) (s : State),
    let r := s.line g
    (r.guardTimer = none → exec (.guardExpiry g) s = .next s)
    ∧ (∀ t, r.guardTimer = some t → t ≠ s.time → (t - s.time).toNat ≤ 65535000 → exec (.guardExpiry g) s = .next s)
    ∧ (r.guardTimer = some s.time →
        (r.waiting = true → exec (.guardExpiry g) s
          = .next (s.setLine g { r with state := .granted, waiting := false, guardTimer := none }))
        ∧ (r.waiting = false → r.pairing.source ≠ none → exec (.guardExpiry g) s
          = .next (s.setLine g { r with state := .ready, guardTimer := none }))
        ∧ (r.waiting = false → r.pairing.source = none → exec (.guardExpiry g) s
          = .next (s.setLine g { r with state := .unpaired, guardTimer := none })))
    ∧ (s.power.inReset = true → s.lineOutput g = .low)
    ∧ (s.power.inReset = false → (s.lineOutput g = .high ↔
        (r.state = .granted ∧ r.pairing.polarity = .activeHigh) ∨ (r.state ≠ .granted ∧ r.pairing.polarity = .activeLow)))

/-- PAIR-GRANT (R89, R90). Requests already handed to the Grant Line Unit are taken first, each as GRANT_REQUEST and
GRANT_END_REQUEST take it (log 13); then RANGE, IN-USE and CONFLICT are checked in that order, a refusal changing no line, and an
accepted order replaces the pairing and moves the state by R90. Every answer carries the line as it then stands. -/
def Obligations.PairGrantChecksThenPairs : Prop :=
  ∀ (tag b i p g w : Byte) (s : State),
    (s.flight.asks = [] → s.takeAsks = s)
    ∧ (∀ t, (∃ x y z, s.flight.asks = .grant x y :: z) → exec .grantRequest s = .next t → s.takeAsks = t.takeAsks)
    ∧ (∀ t, (∃ y z, s.flight.asks = .finish y :: z) → exec .grantEndRequest s = .next t → s.takeAsks = t.takeAsks)
    ∧ (s.admits →
      let u := s.takeAsks
      let row := Instr.pairGrant tag [b, i, p, g, w]
      let answer := fun (v : State) (r : Result) (fields : List Byte) =>
        (Host.Outcome.next (v.answered { kind := 0x0E, tag := tag } r fields).transmit : Host.Outcome State Fault Refusal)
      (8 ≤ b.toNat → exec row s = answer u .range [b, 0xFF, 0, 0, 0, 0, 0, 0])
      ∧ (∀ k : LineNo, b.toNat = k.val → (32 ≤ i.toNat ∧ i ≠ 0xFF) ∨ 1 < p.toNat ∨ 1 < w.toNat →
          exec row s = answer u .range (b :: (u.line k).bytes))
      ∧ (∀ (k : LineNo) (x : Pairing), b.toNat = k.val → pairing? i p g w = some x → (u.line k).holds = true →
          exec row s = answer u .inUse (b :: (u.line k).bytes))
      ∧ (∀ (k h : LineNo) (x : Pairing) (j : SourceNo), b.toNat = k.val → pairing? i p g w = some x →
          (u.line k).holds = false → x.source = some j → h ≠ k → (u.line h).pairing.source = some j →
          (∀ y, y < h → y ≠ k → (u.line y).pairing.source ≠ some j) →
          exec row s = answer u .conflict (b :: (u.line k).bytes ++ [byteOf h.val]))
      ∧ (∀ (k : LineNo) (x : Pairing), b.toNat = k.val → pairing? i p g w = some x → (u.line k).holds = false →
          (∀ h, h ≠ k → x.source ≠ none → (u.line h).pairing.source ≠ x.source) →
          let r : LineRecord := { u.line k with
            pairing := x
            state := if (u.line k).state = .guarding then .guarding else if x.source = none then .unpaired else .ready }
          exec row s = answer (u.setLine k r) .ok (b :: r.bytes)))

/-! ### The event journal -/

/-- JOURNAL_ARRIVAL takes the oldest record handed (R103): dropped when the covered run has its greatest length (R105), appended with
the next sequence up to 126 records, and from there counted into the GAP that is the newest record, or made a GAP of count 1 (R104).
That the records of all blocks wait in one first-in first-out list, where R103 lets those of different blocks come in either order, is
the model's reading (log 10, 11). -/
def Obligations.JournalArrivalsFollowR104AndR105 : Prop :=
  ∀ (s : State) (b : RecordBody) (rest : List RecordBody), s.flight.arrivals = b :: rest →
    let j := s.journal
    let taken := fun (x : Journal) => (Host.Outcome.next ({ s with
      journal := x, flight := { s.flight with arrivals := rest } } : State) : Host.Outcome State Fault Refusal)
    let room := (j.next - j.oldest).toNat < 2147483647
    (¬ room → exec .journalArrival s = taken j)
    ∧ (room → j.records.length ≤ 126 → exec .journalArrival s
        = taken { records := j.records ++ [{ seq := j.next, body := b }], next := j.next + 1 })
    ∧ (room → 127 ≤ j.records.length → ∀ pre r, j.records = pre ++ [r] → r.body.kind = .gap → exec .journalArrival s
        = taken { records := pre ++ [{ r with body := { r.body with count := r.body.count.map (· + 1) } }], next := j.next + 1 })
    ∧ (room → j.records.length = 127 → ∀ pre r, j.records = pre ++ [r] → r.body.kind ≠ .gap → exec .journalArrival s
        = taken { records := j.records ++ [{ seq := j.next, body := { time := b.time, kind := .gap, count := some 1 } }]
                  next := j.next + 1 })

/-- READ-JOURNAL is a read (R107, R108): by where its position falls (R102) it returns up to 3 records from the one whose coverage
includes the position, or from the oldest with the marker set, or none; with them the oldest and the next sequence. -/
def Obligations.ReadJournalReturnsUpToThreeRecords : Prop :=
  ∀ (tag b3 b2 b1 b0 : Byte) (s : State), s.admits →
    let g : Seq := b3 ++ b2 ++ b1 ++ b0
    let j := s.journal
    let within := (g - j.oldest).toNat < (j.next - j.oldest).toNat
    let answer := fun (marker : Byte) (l : List JournalRecord) =>
      (Host.Outcome.next (s.answered { kind := 0x11, tag := tag } .ok
        ((marker ||| byteOf l.length) :: be32 j.oldest ++ be32 j.next ++ l.flatMap JournalRecord.bytes)).transmit :
          Host.Outcome State Fault Refusal)
    (within → ∀ pre r post, j.records = pre ++ r :: post → (g - r.seq).toNat < r.coverage →
      (∀ x ∈ pre, x.coverage ≤ (g - x.seq).toNat) →
      exec (.readJournal tag [b3, b2, b1, b0]) s = answer 0 ((r :: post).take 3))
    ∧ (¬ within → (g - j.next).toNat < 2147483648 → exec (.readJournal tag [b3, b2, b1, b0]) s = answer 0 [])
    ∧ (¬ within → 2147483648 ≤ (g - j.next).toNat →
        exec (.readJournal tag [b3, b2, b1, b0]) s = answer 0x80 (j.records.take 3))

/-- TRIM-JOURNAL (R109): a limit at or past the next sequence is answered RANGE; an older one removes nothing; one within the journal
removes the records from the oldest end whose whole coverage ends at or before it, and the next-sequence counter stays. -/
def Obligations.TrimJournalRemovesWholeCoverages : Prop :=
  ∀ (tag b3 b2 b1 b0 : Byte) (s : State), s.admits →
    let g : Seq := b3 ++ b2 ++ b1 ++ b0
    let j := s.journal
    let within := (g - j.oldest).toNat < (j.next - j.oldest).toNat
    let ends := fun (r : JournalRecord) => (r.seq - j.oldest).toNat + r.coverage ≤ (g - j.oldest).toNat + 1
    let answer := fun (x : Journal) (r : Result) =>
      (Host.Outcome.next (({ s with journal := x } : State).answered { kind := 0x12, tag := tag } r
        (be32 x.oldest ++ be32 x.next ++ [byteOf x.records.length])).transmit : Host.Outcome State Fault Refusal)
    (¬ within → (g - j.next).toNat < 2147483648 → exec (.trimJournal tag [b3, b2, b1, b0]) s = answer j .range)
    ∧ (¬ within → 2147483648 ≤ (g - j.next).toNat → exec (.trimJournal tag [b3, b2, b1, b0]) s = answer j .ok)
    ∧ (within → ∀ pre post, j.records = pre ++ post → (∀ r ∈ pre, ends r) → (∀ r, post.head? = some r → ¬ ends r) →
        exec (.trimJournal tag [b3, b2, b1, b0]) s = answer { j with records := post } .ok)

/-! ### Sessions -/

/-- OPEN (R136, R137): refused with WRONG-STATE while a session is UP and with RANGE for a parameter out of range, it changes nothing;
accepted, it stores the parameters, brings the session UP with numbering from 1, hands SESSION-OPEN, releases ATTN, and its answer
joins before the dispatch arbiter runs. -/
def Obligations.OpenBeginsASession : Prop :=
  ∀ (tag c a r m : Byte) (s : State), s.admits → s.flight.loss = none →
    let row := Instr.openSession tag [c, a, r, m]
    let o : Order := { kind := 0x03, tag := tag }
    let x := s.session
    let fields := [flagByte x.up, x.endCause.code, x.credit, x.answerTimeout, x.retryLimit, x.nesting.code]
    let legal := 1 ≤ c.toNat ∧ c.toNat ≤ 8 ∧ a ≠ 0 ∧ r.toNat ≤ 7 ∧ m.toNat ≤ 1
    (x.up = true → exec row s = .next (s.answered o .wrongState fields).transmit)
    ∧ (x.up = false → ¬ legal → exec row s = .next (s.answered o .range fields).transmit)
    ∧ (x.up = false → legal → exec row s = .next ((({ s with
        session := { x with
          up := true, credit := c, answerTimeout := a, retryLimit := r, nesting := if m = 1 then .ordered else .free
          attn := false }
        dispatcher := { s.dispatcher with nextNumber := 1 }
        flight := { s.flight with arrivals := s.flight.arrivals ++
          [{ time := s.time, kind := .sessionOpen, count := some (c.zeroExtend 32) }] } } : State).answered o .ok
            [1, x.endCause.code, c, a, r, m]).transmit.dispatch).transmit)

/-- The end of a session (R84, R138 to R140): CLOSE of a session that is UP, and SESSION_LOST with a loss reported, tear it down: the
table and the notice send list are emptied, the grants of every entry end, every class with an entry or in HELD is read and goes to
PENDING or IDLE, the session goes DOWN with its end cause, the record of the end carries the number of entries discarded, and ATTN is
evaluated. CLOSE of a session that is DOWN is answered WRONG-STATE and changes nothing; SESSION_LOST with no loss reported leaves the
state, which is the model's choice (log 4). The Grant Line Unit takes within teardown the requests handed before and then those of the
entries, in table order, which is the model's choice (log 10, 13, 31): so at its end no line is GRANTED or waiting. -/
def Obligations.TeardownEndsTheSession : Prop :=
  ∀ (tag : Byte) (s : State),
    let o : Order := { kind := 0x04, tag := tag }
    let w := ({ s with flight := { s.flight with
      asks := s.flight.asks ++ s.dispatcher.entries.map fun e => .finish e.number } } : State).takeAsks
    let torn := fun (cause : EndCause) (k : RecordKind) (c : Option ClassNo) (n : Option Byte) => (({ s with
      dispatcher := { s.dispatcher with entries := [], sendList := [] }
      classes := Vector.ofFn fun d =>
        let r := s.klass d
        if r.state = .notified ∨ r.state = .held then r.settleContinued (s.contributors d)
        else if r.state = .inService ∨ r.state = .expired then r.settleFresh s.time (s.contributors d)
        else r
      lines := w.lines
      link := { s.link with tx := s.link.tx.map fun t =>
        match t.origin with
        | .notice (some _) => { t with origin := .notice none }
        | _ => t }
      session := { s.session with up := false, endCause := cause }
      flight := { s.flight with
        loss := none
        asks := []
        arrivals := w.flight.arrivals ++
          [{ time := s.time, kind := k, cls := c, notice := n
             count := some (BitVec.ofNat 32 s.dispatcher.entries.length) }] } } : State).evalAttn)
    (s.admits → s.flight.loss = none → s.session.up = true → exec (.closeSession tag []) s
      = .next ((torn .closed .sessionClose none none).answered o .ok [0, 1, byteOf s.dispatcher.entries.length]).transmit)
    ∧ (s.admits → s.flight.loss = none → s.session.up = false → exec (.closeSession tag []) s
      = .next (s.answered o .wrongState [0, s.session.endCause.code, 0]).transmit)
    ∧ (∀ l, s.flight.loss = some l → exec .sessionLost s = .next (torn .lost .sessionLost (some l.cls) (some l.notice)))
    ∧ (s.flight.loss = none → exec .sessionLost s = .next s)
    ∧ (s.flight.asks = [] → w = { s with lines := s.lines.map fun r =>
        if (∃ e ∈ s.dispatcher.entries, r.notice = some e.number) ∧ r.state = .granted then
          if r.pairing.guardTime = 0 then { r with state := .ready, notice := none }
          else { r with
            state := .guarding, waiting := false, notice := none
            guardTimer := some (s.time + BitVec.ofNat 32 r.pairing.guardTime.toNat) }
        else if (∃ e ∈ s.dispatcher.entries, r.notice = some e.number) ∧ r.state = .guarding ∧ r.waiting = true then
          { r with waiting := false, notice := none }
        else r })
    ∧ (LinesLaw s → GrantsLaw s → ∀ g, (w.line g).holds = false)

/-- Where a loss has been reported and not yet taken, an admitted CLAIM, RELEASE, RETURN, OPEN or CLOSE, and the expiry of an answer
timer, do what they do after SESSION_LOST (R81, R85, R139, R142; log 12). -/
def Obligations.ReportedLossIsTakenFirst : Prop :=
  ∀ (tag n hi lo c a r m : Byte) (l : LossReport) (s t : State), s.admits → s.flight.loss = some l → exec .sessionLost s = .next t →
    (∀ row ∈ [Instr.claim tag [n], .release tag [n], .returnNotice tag [n, hi, lo], .openSession tag [c, a, r, m],
        .closeSession tag []], exec row s = exec row t)
    ∧ exec (.answerTimerExpiry n) s = exec (.answerTimerExpiry n) t

/-! ### Profiles -/

/-- SAVE-PROFILE and SET-BOOT as they arrive (R151, R152, R154): RANGE, then BUSY, change nothing; accepted, a save makes its slot
INVALID and takes the snapshot, a set-boot makes the designation none, and the order waits in the window for a completion within the
bounds of R152 and R154. When within them is a free value of the model, fixed as the write begins (log 8). -/
def Obligations.StoreOperationsBegin : Prop :=
  ∀ (tag b : Byte) (s : State), s.admits →
    let save : Order := { kind := 0x13, tag := tag }
    let boot : Order := { kind := 0x15, tag := tag }
    (4 ≤ b.toNat → exec (.saveProfile tag [b]) s = .next (s.answered save .range [b]).transmit)
    ∧ (4 ≤ b.toNat → b ≠ 0xFF → exec (.setBoot tag [b]) s = .next (s.answered boot .range [b]).transmit)
    ∧ (s.store.operation ≠ .none →
        (b.toNat < 4 → exec (.saveProfile tag [b]) s
          = .next (s.answered save .busy (b :: s.store.operation.bytes)).transmit)
        ∧ (b.toNat < 4 ∨ b = 0xFF → exec (.setBoot tag [b]) s
          = .next (s.answered boot .busy (numberByte s.store.boot :: s.store.operation.bytes)).transmit))
    ∧ (s.store.operation = .none →
        (∀ n : SlotNo, b.toNat = n.val → ∃ d, 25000 ≤ d ∧ d ≤ 40000 ∧ exec (.saveProfile tag [b]) s
          = .next (({ s with
              store := { s.store with
                slots := s.store.slots.set n .invalid
                operation := .save n
                  { steering := s.steering, settings := s.classes.map (·.settings), pairings := s.lines.map (·.pairing) }
                  save (s.time + BitVec.ofNat 32 d) }
              choices := s.choices + 1 } : State).windowed save))
        ∧ (∀ x : Option SlotNo, (b = 0xFF ∧ x = none) ∨ (∃ n, b.toNat = n.val ∧ x = some n) →
            ∃ d, 4000 ≤ d ∧ d ≤ 8000 ∧ exec (.setBoot tag [b]) s
          = .next (({ s with
              store := { s.store with boot := none, operation := .setBoot x boot (s.time + BitVec.ofNat 32 d) }
              choices := s.choices + 1 } : State).windowed boot)))

/-- The completion of a save (R153): a generation past the last that no VALID slot holds, the slot VALID with the snapshot, the
operation none, PROFILE-SAVED handed, the answer OK. The completion of a set-boot (R154): the designation takes its value, the
operation is none, the answer is OK. With no such operation running, or before its write ends, nothing happens, which is the model's
choice (log 4). -/
def Obligations.StoreOperationsComplete : Prop :=
  ∀ s : State,
    (∀ n p o, s.store.operation = .save n p o s.time →
      ∃ (k : Nat) (g : BitVec 32), g = nextGeneration^[k + 1] s.store.generation
        ∧ (∀ m h q, s.store.slot m = .valid h q → h ≠ g)
        ∧ (∀ i, i < k → ∃ m h q, s.store.slot m = .valid h q ∧ h = nextGeneration^[i + 1] s.store.generation)
        ∧ exec .profileSaveCompletion s = .next ({ s with
            store := { s.store with slots := s.store.slots.set n (.valid g p), generation := g, operation := .none }
            flight := { s.flight with arrivals := s.flight.arrivals ++
              [{ time := s.time, kind := .profileSaved, count := some (BitVec.ofNat 32 n.val) }] }
            link := { s.link with answers := s.link.answers ++
              [{ order := o, result := .ok, fields := byteOf n.val :: be32 g }] } } : State).transmit)
    ∧ (∀ d o, s.store.operation = .setBoot d o s.time → exec .setBootCompletion s = .next ({ s with
          store := { s.store with boot := d, operation := .none }
          link := { s.link with answers := s.link.answers ++
            [{ order := o, result := .ok, fields := [numberByte d] }] } } : State).transmit)
    ∧ ((∀ n p o t, s.store.operation = .save n p o t → t ≠ s.time ∧ (t - s.time).toNat ≤ 65535000) →
        exec .profileSaveCompletion s = .next s)
    ∧ ((∀ d o t, s.store.operation = .setBoot d o t → t ≠ s.time ∧ (t - s.time).toNat ≤ 65535000) →
        exec .setBootCompletion s = .next s)

/-- LOAD-PROFILE (R155, R156): RANGE, BUSY, EMPTY, DAMAGED and IN-USE in that order change nothing; accepted, the slot's profile is put
in force by R150: steering, cleared source records, fresh grant lines, and every class judged afresh from IDLE under them (R58),
PROFILE-LOADED handed, answered OK with the generation, the answer joining before the dispatch arbiter runs. Requests already handed to
the Grant Line Unit are taken first (log 13), and the reports of the old steering are superseded (log 14). -/
def Obligations.LoadProfilePutsTheSlotInForce : Prop :=
  ∀ (tag b : Byte) (s : State), s.admits →
    let row := Instr.loadProfile tag [b]
    let o : Order := { kind := 0x14, tag := tag }
    (4 ≤ b.toNat → exec row s = .next (s.answered o .range [b]).transmit)
    ∧ (b.toNat < 4 → s.store.operation ≠ .none →
        exec row s = .next (s.answered o .busy s.store.operation.bytes).transmit)
    ∧ (∀ n : SlotNo, b.toNat = n.val → s.store.operation = .none →
        (s.store.slot n = .empty → exec row s = .next (s.answered o .empty [b]).transmit)
        ∧ (s.store.slot n = .invalid → exec row s = .next (s.answered o .damaged [b]).transmit)
        ∧ (∀ g p, s.store.slot n = .valid g p → s.dispatcher.entries ≠ [] →
            exec row s = .next (s.answered o .inUse [byteOf s.dispatcher.entries.length]).transmit)
        ∧ (∀ g p, s.store.slot n = .valid g p → s.dispatcher.entries = [] →
            let w := s.takeAsks
            let u : State := { w with
              steering := p.steering
              sources := Vector.ofFn fun i => { s.src i with
                latch := false, count := 0, forced := false
                live := liveValue (p.steering[i]).mode (s.src i).qualified false }
              lines := Vector.ofFn fun k =>
                { pairing := p.pairings[k], state := if (p.pairings[k]).source = none then .unpaired else .ready, waiting := false
                  notice := none, guardTimer := none }
              flight := { w.flight with
                reports := []
                arrivals := w.flight.arrivals ++
                  [{ time := s.time, kind := .profileLoaded, count := some (BitVec.ofNat 32 n.val) }] } }
            let v : State := { u with classes := Vector.ofFn fun c =>
              let x := p.settings[c]
              let found := u.contributors c
              { settings := x, state := if found = [] then .idle else .pending, late := false
                firstPending := if found = [] then none else some s.time
                deadlineTimer := if found ≠ [] ∧ x.critical = true then some (s.time + BitVec.ofNat 32 (x.deadline.toNat * 1000))
                  else none
                holdTimer := none, reported := found } }
            exec row s = .next (((v.answered o .ok (b :: be32 g)).transmit.dispatch).evalAttn).transmit))

/-! ### Resets and start-up -/

/-- POWER_ON and PIN_RESET begin a reset with their cause and SUPPLY_IN_RANGE and RESET_RELEASE end the cause (R158). Whatever the
cause, a reset that begins puts every block at its reset values (R1, R3, R50, R57, R59, R86, R131, R135), leaves a slot being saved
INVALID and a designation being written none (R158), and empties the journal after POWER-ON (R98, R112) or keeps every record it holds
(R113). That the journal takes every record handed and not yet taken as a PIN or RESTART reset begins is the model's reading (log 11).
Steering, settings and pairings are left to start-up (log 21), and so is the link rate, to which R131 gives no value in reset (log 33);
the qualified levels and live flags, to which R3 gives values only as the part leaves reset, hold the raw levels and false (log 21): the
model's choices. -/
def Obligations.ResetsBeginAndTheirCausesEnd : Prop :=
  ∀ (s : State) (cause : ResetCause),
    exec .powerOn s
      = .next { s.beginReset .powerOn with power :=
          { s.power with inReset := true, lastCause := .powerOn, supplyOut := true, supplyLost := true } }
    ∧ exec .pinReset s
      = .next { s.beginReset .pin with power := { s.power with inReset := true, lastCause := .pin, pinLow := true } }
    ∧ exec .supplyInRange s = .next { s with power := { s.power with supplyOut := false } }
    ∧ exec .resetRelease s = .next { s with power := { s.power with pinLow := false } }
    ∧ s.beginReset cause = { s with
        time := 0
        sources := Vector.ofFn fun i =>
          { raw := (s.src i).raw, qualified := (s.src i).raw, timer := none, latch := false, count := 0, forced := false, live := false }
        classes := Vector.ofFn fun c =>
          { settings := (s.klass c).settings, state := .idle, late := false, firstPending := none, deadlineTimer := none
            holdTimer := none, reported := [] }
        alarm := false
        dispatcher := { entries := [], nextNumber := 1, sendList := [] }
        lines := Vector.ofFn fun g =>
          { pairing := (s.line g).pairing, state := if (s.line g).pairing.source = none then .unpaired else .ready
            waiting := false, notice := none, guardTimer := none }
        journal := if cause = .powerOn then { records := [], next := 1 }
          else s.flight.arrivals.foldl Journal.arrive s.journal
        link := { s.link with
          rxEnabled := false, rxWait := none, rx := .hunt, rxTimer := none, frameErrors := 0, window := [], answers := []
          overrun := false, startPending := false, tx := none }
        session :=
          { up := false, endCause := .none, credit := 0, answerTimeout := 0, retryLimit := 0, nesting := .free, attn := false }
        store := { s.store with operation := .none }
        power := { s.power with inReset := true, lastCause := cause }
        flight := { reports := [], asks := [], withdrawals := [], arrivals := [], loss := none } }

/-- START_UP out of its place leaves the state (log 4); at the end of the store read period it is taken in the steps of R160: the
cause and the boot outcome (R158, R161), the profile put in force (R150), RESET and BOOT into the journal (R112, R113), the classes
read at reading 0 (R57), ATTN (R143), the link rate by the straps (R115), the receiver enabled and waiting for
ten bit times of RXD high (R116, R131), and START begun (R162). The end of START is rounded down (log 7) and the wait is counted to the
middle of the first character's stop bit and rounded up (log 34): the model's choices. -/
def Obligations.StartUpFollowsR160AndR161 : Prop :=
  ∀ s : State,
    (s.power.inReset = false ∨ s.power.supplyOut = true ∨ s.power.pinLow = true → exec .startUp s = .next s)
    ∧ (s.power.inReset = true → s.power.supplyOut = false → s.power.pinLow = false → s.link.tx = none →
      ∀ (outcome : BootOutcome) (p : Profile),
        (s.store.boot = none ∧ outcome = .noneDesignated ∧ p = factoryProfile)
          ∨ (∃ n, s.store.boot = some n ∧ ((∃ g, s.store.slot n = .valid g p ∧ outcome = .slot n)
              ∨ (s.store.slot n = .empty ∧ outcome = .slotEmpty ∧ p = factoryProfile)
              ∨ (s.store.slot n = .invalid ∧ outcome = .slotInvalid ∧ p = factoryProfile))) →
        let cause := if s.power.supplyLost then ResetCause.powerOn else s.power.lastCause
        let journal := (s.journal.arrive { time := 0, kind := .reset, count := some (cause.code.zeroExtend 32) }).arrive
          { time := 0, kind := .boot, count := some (outcome.code.zeroExtend 32) }
        let rate : LinkRate :=
          if s.link.rateB then (if s.link.rateA then .b2000000 else .b921600) else (if s.link.rateA then .b460800 else .b115200)
        let bits : Nat := if s.link.rateB then (if s.link.rateA then 2000000 else 921600) else (if s.link.rateA then 460800 else 115200)
        ∃ t, exec .startUp s = .next t ∧ t = { s with
          time := 0
          steering := p.steering
          sources := Vector.ofFn fun i =>
            { raw := (s.src i).raw, qualified := (s.src i).raw, timer := none, latch := false, count := 0, forced := false
              live := liveValue (p.steering[i]).mode (s.src i).raw false }
          lines := Vector.ofFn fun g =>
            { pairing := p.pairings[g], state := if (p.pairings[g]).source = none then .unpaired else .ready, waiting := false
              notice := none, guardTimer := none }
          journal := journal
          classes := Vector.ofFn fun c =>
            let x := p.settings[c]
            let found := t.contributors c
            { settings := x, state := if found = [] then .idle else .pending, late := false
              firstPending := if found = [] then none else some 0
              deadlineTimer := if found ≠ [] ∧ x.critical = true then some (BitVec.ofNat 32 (x.deadline.toNat * 1000)) else none
              holdTimer := none, reported := found }
          session := { s.session with attn := t.attnCondition }
          store := { s.store with resetCause := cause, bootOutcome := outcome }
          power := { s.power with inReset := false, supplyLost := false }
          link := { s.link with
            rate := rate, rxEnabled := true, startPending := true
            rxWait := some { quiet := .enabled, ends := BitVec.ofNat 32 ((19500000 + (bits - 1)) / bits) }
            tx := some
              { frame := { kind := 0x62, tag := 0, payload := [cause.code, outcome.code] ++ be32 journal.next }
                origin := .start, ends := frameMicros rate 6 } } })
end

