-- ==== Sys2Proof/Laws/State.lean ====
section
/-! SUPPORT. The record of each resource under its update, field by field. -/

namespace Sys2Proof.Laws

open Sys2Proof.Machine

/-! ### Reading a record back from its table -/

theorem steer_eq (s : State) (i : SourceNo) : s.steer i = s.steering[i.val] := rfl

theorem src_eq (s : State) (i : SourceNo) : s.src i = s.sources[i.val] := rfl

theorem klass_eq (s : State) (c : ClassNo) : s.klass c = s.classes[c.val] := rfl

theorem line_eq (s : State) (g : LineNo) : s.line g = s.lines[g.val] := rfl

@[simp] theorem mem_allSources (i : SourceNo) : i ∈ allSources := List.mem_finRange i

@[simp] theorem mem_allClasses (c : ClassNo) : c ∈ allClasses := List.mem_finRange c

@[simp] theorem mem_allLines (g : LineNo) : g ∈ allLines := List.mem_finRange g

@[simp] theorem mem_allSlots (n : SlotNo) : n ∈ allSlots := List.mem_finRange n

/-- A table replaced whole reads as the new table. -/
theorem src_ofFn (s : State) (f : SourceNo → SourceRecord) (i : SourceNo) :
    ({ s with sources := Vector.ofFn f } : State).src i = f i := by simp [State.src]

theorem klass_ofFn (s : State) (f : ClassNo → ClassRecord) (c : ClassNo) :
    ({ s with classes := Vector.ofFn f } : State).klass c = f c := by simp [State.klass]

theorem line_ofFn (s : State) (f : LineNo → LineRecord) (g : LineNo) :
    ({ s with lines := Vector.ofFn f } : State).line g = f g := by simp [State.line]

theorem line_map (s : State) (f : LineRecord → LineRecord) (g : LineNo) :
    ({ s with lines := s.lines.map f } : State).line g = f (s.line g) := by simp [State.line]

/-- Two states with one table read the same records. -/
theorem steer_congr {s t : State} (h : t.steering = s.steering) (i : SourceNo) : t.steer i = s.steer i := by
  simp [State.steer, h]

theorem src_congr {s t : State} (h : t.sources = s.sources) (i : SourceNo) : t.src i = s.src i := by
  simp [State.src, h]

theorem klass_congr {s t : State} (h : t.classes = s.classes) (c : ClassNo) : t.klass c = s.klass c := by
  simp [State.klass, h]

theorem line_congr {s t : State} (h : t.lines = s.lines) (g : LineNo) : t.line g = s.line g := by
  simp [State.line, h]

@[simp] theorem setSlot_slot_self (t : Store) (n : SlotNo) (x : Slot) : (t.setSlot n x).slot n = x := by
  simp [Store.setSlot, Store.slot]

theorem setSlot_slot (t : Store) (n m : SlotNo) (x : Slot) : (t.setSlot n x).slot m = if m = n then x else t.slot m := by
  split
  · subst_vars; simp
  · rename_i h
    have : n.val ≠ m.val := fun y => h (Fin.ext y.symm)
    simp [Store.setSlot, Store.slot, Vector.getElem_set_ne, this]

/-! ### One record replaced -/

@[simp] theorem setSteer_time (s : State) (i : SourceNo) (e : SteerEntry) : (s.setSteer i e).time = s.time := rfl

@[simp] theorem setSteer_sources (s : State) (i : SourceNo) (e : SteerEntry) : (s.setSteer i e).sources = s.sources := rfl

@[simp] theorem setSteer_classes (s : State) (i : SourceNo) (e : SteerEntry) : (s.setSteer i e).classes = s.classes := rfl

@[simp] theorem setSteer_alarm (s : State) (i : SourceNo) (e : SteerEntry) : (s.setSteer i e).alarm = s.alarm := rfl

@[simp] theorem setSteer_dispatcher (s : State) (i : SourceNo) (e : SteerEntry) : (s.setSteer i e).dispatcher = s.dispatcher := rfl

@[simp] theorem setSteer_lines (s : State) (i : SourceNo) (e : SteerEntry) : (s.setSteer i e).lines = s.lines := rfl

@[simp] theorem setSteer_journal (s : State) (i : SourceNo) (e : SteerEntry) : (s.setSteer i e).journal = s.journal := rfl

@[simp] theorem setSteer_link (s : State) (i : SourceNo) (e : SteerEntry) : (s.setSteer i e).link = s.link := rfl

@[simp] theorem setSteer_session (s : State) (i : SourceNo) (e : SteerEntry) : (s.setSteer i e).session = s.session := rfl

@[simp] theorem setSteer_store (s : State) (i : SourceNo) (e : SteerEntry) : (s.setSteer i e).store = s.store := rfl

@[simp] theorem setSteer_power (s : State) (i : SourceNo) (e : SteerEntry) : (s.setSteer i e).power = s.power := rfl

@[simp] theorem setSteer_flight (s : State) (i : SourceNo) (e : SteerEntry) : (s.setSteer i e).flight = s.flight := rfl

@[simp] theorem setSteer_choices (s : State) (i : SourceNo) (e : SteerEntry) : (s.setSteer i e).choices = s.choices := rfl

@[simp] theorem setSteer_pending (s : State) (i : SourceNo) (e : SteerEntry) : (s.setSteer i e).pending = s.pending := rfl

@[simp] theorem setSteer_src (s : State) (i : SourceNo) (e : SteerEntry) (j : SourceNo) :
    (s.setSteer i e).src j = s.src j := rfl

@[simp] theorem setSteer_klass (s : State) (i : SourceNo) (e : SteerEntry) (j : ClassNo) :
    (s.setSteer i e).klass j = s.klass j := rfl

@[simp] theorem setSteer_line (s : State) (i : SourceNo) (e : SteerEntry) (j : LineNo) :
    (s.setSteer i e).line j = s.line j := rfl

@[simp] theorem setSteer_steer_self (s : State) (i : SourceNo) (e : SteerEntry) : (s.setSteer i e).steer i = e := by
  simp [State.setSteer, State.steer]

theorem setSteer_steer_of_ne (s : State) (i : SourceNo) (j : SourceNo) (e : SteerEntry) (h : j ≠ i) :
    (s.setSteer i e).steer j = s.steer j := by
  have : i.val ≠ j.val := fun x => h (Fin.ext x.symm)
  simp [State.setSteer, State.steer, Vector.getElem_set_ne, this]

theorem setSteer_steer (s : State) (i : SourceNo) (j : SourceNo) (e : SteerEntry) :
    (s.setSteer i e).steer j = if j = i then e else s.steer j := by
  split
  · subst_vars; simp
  · exact setSteer_steer_of_ne s i j e ‹_›

@[simp] theorem setSrc_time (s : State) (i : SourceNo) (r : SourceRecord) : (s.setSrc i r).time = s.time := rfl

@[simp] theorem setSrc_steering (s : State) (i : SourceNo) (r : SourceRecord) : (s.setSrc i r).steering = s.steering := rfl

@[simp] theorem setSrc_classes (s : State) (i : SourceNo) (r : SourceRecord) : (s.setSrc i r).classes = s.classes := rfl

@[simp] theorem setSrc_alarm (s : State) (i : SourceNo) (r : SourceRecord) : (s.setSrc i r).alarm = s.alarm := rfl

@[simp] theorem setSrc_dispatcher (s : State) (i : SourceNo) (r : SourceRecord) : (s.setSrc i r).dispatcher = s.dispatcher := rfl

@[simp] theorem setSrc_lines (s : State) (i : SourceNo) (r : SourceRecord) : (s.setSrc i r).lines = s.lines := rfl

@[simp] theorem setSrc_journal (s : State) (i : SourceNo) (r : SourceRecord) : (s.setSrc i r).journal = s.journal := rfl

@[simp] theorem setSrc_link (s : State) (i : SourceNo) (r : SourceRecord) : (s.setSrc i r).link = s.link := rfl

@[simp] theorem setSrc_session (s : State) (i : SourceNo) (r : SourceRecord) : (s.setSrc i r).session = s.session := rfl

@[simp] theorem setSrc_store (s : State) (i : SourceNo) (r : SourceRecord) : (s.setSrc i r).store = s.store := rfl

@[simp] theorem setSrc_power (s : State) (i : SourceNo) (r : SourceRecord) : (s.setSrc i r).power = s.power := rfl

@[simp] theorem setSrc_flight (s : State) (i : SourceNo) (r : SourceRecord) : (s.setSrc i r).flight = s.flight := rfl

@[simp] theorem setSrc_choices (s : State) (i : SourceNo) (r : SourceRecord) : (s.setSrc i r).choices = s.choices := rfl

@[simp] theorem setSrc_pending (s : State) (i : SourceNo) (r : SourceRecord) : (s.setSrc i r).pending = s.pending := rfl

@[simp] theorem setSrc_steer (s : State) (i : SourceNo) (r : SourceRecord) (j : SourceNo) :
    (s.setSrc i r).steer j = s.steer j := rfl

@[simp] theorem setSrc_klass (s : State) (i : SourceNo) (r : SourceRecord) (j : ClassNo) :
    (s.setSrc i r).klass j = s.klass j := rfl

@[simp] theorem setSrc_line (s : State) (i : SourceNo) (r : SourceRecord) (j : LineNo) :
    (s.setSrc i r).line j = s.line j := rfl

@[simp] theorem setSrc_src_self (s : State) (i : SourceNo) (r : SourceRecord) : (s.setSrc i r).src i = r := by
  simp [State.setSrc, State.src]

theorem setSrc_src_of_ne (s : State) (i : SourceNo) (j : SourceNo) (r : SourceRecord) (h : j ≠ i) :
    (s.setSrc i r).src j = s.src j := by
  have : i.val ≠ j.val := fun x => h (Fin.ext x.symm)
  simp [State.setSrc, State.src, Vector.getElem_set_ne, this]

theorem setSrc_src (s : State) (i : SourceNo) (j : SourceNo) (r : SourceRecord) :
    (s.setSrc i r).src j = if j = i then r else s.src j := by
  split
  · subst_vars; simp
  · exact setSrc_src_of_ne s i j r ‹_›

@[simp] theorem setKlass_time (s : State) (c : ClassNo) (r : ClassRecord) : (s.setKlass c r).time = s.time := rfl

@[simp] theorem setKlass_steering (s : State) (c : ClassNo) (r : ClassRecord) : (s.setKlass c r).steering = s.steering := rfl

@[simp] theorem setKlass_sources (s : State) (c : ClassNo) (r : ClassRecord) : (s.setKlass c r).sources = s.sources := rfl

@[simp] theorem setKlass_alarm (s : State) (c : ClassNo) (r : ClassRecord) : (s.setKlass c r).alarm = s.alarm := rfl

@[simp] theorem setKlass_dispatcher (s : State) (c : ClassNo) (r : ClassRecord) : (s.setKlass c r).dispatcher = s.dispatcher := rfl

@[simp] theorem setKlass_lines (s : State) (c : ClassNo) (r : ClassRecord) : (s.setKlass c r).lines = s.lines := rfl

@[simp] theorem setKlass_journal (s : State) (c : ClassNo) (r : ClassRecord) : (s.setKlass c r).journal = s.journal := rfl

@[simp] theorem setKlass_link (s : State) (c : ClassNo) (r : ClassRecord) : (s.setKlass c r).link = s.link := rfl

@[simp] theorem setKlass_session (s : State) (c : ClassNo) (r : ClassRecord) : (s.setKlass c r).session = s.session := rfl

@[simp] theorem setKlass_store (s : State) (c : ClassNo) (r : ClassRecord) : (s.setKlass c r).store = s.store := rfl

@[simp] theorem setKlass_power (s : State) (c : ClassNo) (r : ClassRecord) : (s.setKlass c r).power = s.power := rfl

@[simp] theorem setKlass_flight (s : State) (c : ClassNo) (r : ClassRecord) : (s.setKlass c r).flight = s.flight := rfl

@[simp] theorem setKlass_choices (s : State) (c : ClassNo) (r : ClassRecord) : (s.setKlass c r).choices = s.choices := rfl

@[simp] theorem setKlass_pending (s : State) (c : ClassNo) (r : ClassRecord) : (s.setKlass c r).pending = s.pending := rfl

@[simp] theorem setKlass_steer (s : State) (c : ClassNo) (r : ClassRecord) (j : SourceNo) :
    (s.setKlass c r).steer j = s.steer j := rfl

@[simp] theorem setKlass_src (s : State) (c : ClassNo) (r : ClassRecord) (j : SourceNo) :
    (s.setKlass c r).src j = s.src j := rfl

@[simp] theorem setKlass_line (s : State) (c : ClassNo) (r : ClassRecord) (j : LineNo) :
    (s.setKlass c r).line j = s.line j := rfl

@[simp] theorem setKlass_klass_self (s : State) (c : ClassNo) (r : ClassRecord) : (s.setKlass c r).klass c = r := by
  simp [State.setKlass, State.klass]

theorem setKlass_klass_of_ne (s : State) (c : ClassNo) (j : ClassNo) (r : ClassRecord) (h : j ≠ c) :
    (s.setKlass c r).klass j = s.klass j := by
  have : c.val ≠ j.val := fun x => h (Fin.ext x.symm)
  simp [State.setKlass, State.klass, Vector.getElem_set_ne, this]

theorem setKlass_klass (s : State) (c : ClassNo) (j : ClassNo) (r : ClassRecord) :
    (s.setKlass c r).klass j = if j = c then r else s.klass j := by
  split
  · subst_vars; simp
  · exact setKlass_klass_of_ne s c j r ‹_›

@[simp] theorem setLine_time (s : State) (g : LineNo) (r : LineRecord) : (s.setLine g r).time = s.time := rfl

@[simp] theorem setLine_steering (s : State) (g : LineNo) (r : LineRecord) : (s.setLine g r).steering = s.steering := rfl

@[simp] theorem setLine_sources (s : State) (g : LineNo) (r : LineRecord) : (s.setLine g r).sources = s.sources := rfl

@[simp] theorem setLine_classes (s : State) (g : LineNo) (r : LineRecord) : (s.setLine g r).classes = s.classes := rfl

@[simp] theorem setLine_alarm (s : State) (g : LineNo) (r : LineRecord) : (s.setLine g r).alarm = s.alarm := rfl

@[simp] theorem setLine_dispatcher (s : State) (g : LineNo) (r : LineRecord) : (s.setLine g r).dispatcher = s.dispatcher := rfl

@[simp] theorem setLine_journal (s : State) (g : LineNo) (r : LineRecord) : (s.setLine g r).journal = s.journal := rfl

@[simp] theorem setLine_link (s : State) (g : LineNo) (r : LineRecord) : (s.setLine g r).link = s.link := rfl

@[simp] theorem setLine_session (s : State) (g : LineNo) (r : LineRecord) : (s.setLine g r).session = s.session := rfl

@[simp] theorem setLine_store (s : State) (g : LineNo) (r : LineRecord) : (s.setLine g r).store = s.store := rfl

@[simp] theorem setLine_power (s : State) (g : LineNo) (r : LineRecord) : (s.setLine g r).power = s.power := rfl

@[simp] theorem setLine_flight (s : State) (g : LineNo) (r : LineRecord) : (s.setLine g r).flight = s.flight := rfl

@[simp] theorem setLine_choices (s : State) (g : LineNo) (r : LineRecord) : (s.setLine g r).choices = s.choices := rfl

@[simp] theorem setLine_pending (s : State) (g : LineNo) (r : LineRecord) : (s.setLine g r).pending = s.pending := rfl

@[simp] theorem setLine_steer (s : State) (g : LineNo) (r : LineRecord) (j : SourceNo) :
    (s.setLine g r).steer j = s.steer j := rfl

@[simp] theorem setLine_src (s : State) (g : LineNo) (r : LineRecord) (j : SourceNo) :
    (s.setLine g r).src j = s.src j := rfl

@[simp] theorem setLine_klass (s : State) (g : LineNo) (r : LineRecord) (j : ClassNo) :
    (s.setLine g r).klass j = s.klass j := rfl

@[simp] theorem setLine_line_self (s : State) (g : LineNo) (r : LineRecord) : (s.setLine g r).line g = r := by
  simp [State.setLine, State.line]

theorem setLine_line_of_ne (s : State) (g : LineNo) (j : LineNo) (r : LineRecord) (h : j ≠ g) :
    (s.setLine g r).line j = s.line j := by
  have : g.val ≠ j.val := fun x => h (Fin.ext x.symm)
  simp [State.setLine, State.line, Vector.getElem_set_ne, this]

theorem setLine_line (s : State) (g : LineNo) (j : LineNo) (r : LineRecord) :
    (s.setLine g r).line j = if j = g then r else s.line j := by
  split
  · subst_vars; simp
  · exact setLine_line_of_ne s g j r ‹_›

end Sys2Proof.Laws
end

