-- ==== Sys2Proof/Laws/Frames.lean ====
section
/-! SUPPORT. For each shared operation, once: the components of State that it leaves as they were. -/

namespace Sys2Proof.Laws

open Sys2Proof.Machine

/-! ### Records, source events, class re-evaluation, entries -/

@[simp] theorem hand_frame (s : State) (b : RecordBody) :
    (s.hand b).time = s.time ∧ (s.hand b).steering = s.steering ∧ (s.hand b).sources = s.sources
    ∧ (s.hand b).classes = s.classes ∧ (s.hand b).alarm = s.alarm ∧ (s.hand b).dispatcher = s.dispatcher
    ∧ (s.hand b).lines = s.lines ∧ (s.hand b).journal = s.journal ∧ (s.hand b).link = s.link ∧ (s.hand b).session = s.session
    ∧ (s.hand b).store = s.store ∧ (s.hand b).power = s.power ∧ (s.hand b).choices = s.choices ∧ (s.hand b).pending = s.pending
    ∧ (s.hand b).flight.reports = s.flight.reports ∧ (s.hand b).flight.asks = s.flight.asks
    ∧ (s.hand b).flight.withdrawals = s.flight.withdrawals ∧ (s.hand b).flight.loss = s.flight.loss := by
  simp [State.hand]

@[simp] theorem handNotice_frame (s : State) (k : RecordKind) (c : ClassNo) (n : Byte) (x : Option (BitVec 32)) :
    (s.handNotice k c n x).time = s.time ∧ (s.handNotice k c n x).steering = s.steering
    ∧ (s.handNotice k c n x).sources = s.sources ∧ (s.handNotice k c n x).classes = s.classes
    ∧ (s.handNotice k c n x).alarm = s.alarm ∧ (s.handNotice k c n x).dispatcher = s.dispatcher
    ∧ (s.handNotice k c n x).lines = s.lines ∧ (s.handNotice k c n x).journal = s.journal
    ∧ (s.handNotice k c n x).link = s.link ∧ (s.handNotice k c n x).session = s.session
    ∧ (s.handNotice k c n x).store = s.store ∧ (s.handNotice k c n x).power = s.power
    ∧ (s.handNotice k c n x).choices = s.choices ∧ (s.handNotice k c n x).pending = s.pending
    ∧ (s.handNotice k c n x).flight.reports = s.flight.reports ∧ (s.handNotice k c n x).flight.asks = s.flight.asks
    ∧ (s.handNotice k c n x).flight.withdrawals = s.flight.withdrawals ∧ (s.handNotice k c n x).flight.loss = s.flight.loss := by
  simp [State.handNotice]

@[simp] theorem handCount_frame (s : State) (k : RecordKind) (x : BitVec 32) :
    (s.handCount k x).time = s.time ∧ (s.handCount k x).steering = s.steering ∧ (s.handCount k x).sources = s.sources
    ∧ (s.handCount k x).classes = s.classes ∧ (s.handCount k x).alarm = s.alarm ∧ (s.handCount k x).dispatcher = s.dispatcher
    ∧ (s.handCount k x).lines = s.lines ∧ (s.handCount k x).journal = s.journal ∧ (s.handCount k x).link = s.link
    ∧ (s.handCount k x).session = s.session ∧ (s.handCount k x).store = s.store ∧ (s.handCount k x).power = s.power
    ∧ (s.handCount k x).choices = s.choices ∧ (s.handCount k x).pending = s.pending
    ∧ (s.handCount k x).flight.reports = s.flight.reports ∧ (s.handCount k x).flight.asks = s.flight.asks
    ∧ (s.handCount k x).flight.withdrawals = s.flight.withdrawals ∧ (s.handCount k x).flight.loss = s.flight.loss := by
  simp [State.handCount]

@[simp] theorem handSource_frame (s : State) (i : SourceNo) (k : RecordKind) (x : Option (BitVec 32)) :
    (s.handSource i k x).time = s.time ∧ (s.handSource i k x).steering = s.steering ∧ (s.handSource i k x).sources = s.sources
    ∧ (s.handSource i k x).classes = s.classes ∧ (s.handSource i k x).alarm = s.alarm
    ∧ (s.handSource i k x).dispatcher = s.dispatcher ∧ (s.handSource i k x).lines = s.lines
    ∧ (s.handSource i k x).journal = s.journal ∧ (s.handSource i k x).link = s.link ∧ (s.handSource i k x).session = s.session
    ∧ (s.handSource i k x).store = s.store ∧ (s.handSource i k x).power = s.power ∧ (s.handSource i k x).choices = s.choices
    ∧ (s.handSource i k x).pending = s.pending ∧ (s.handSource i k x).flight.reports = s.flight.reports
    ∧ (s.handSource i k x).flight.asks = s.flight.asks ∧ (s.handSource i k x).flight.withdrawals = s.flight.withdrawals
    ∧ (s.handSource i k x).flight.loss = s.flight.loss := by
  unfold State.handSource
  split <;> simp

@[simp] theorem handGrantEnd_frame (s : State) (i : SourceNo) (g : LineNo) :
    (s.handGrantEnd i g).time = s.time ∧ (s.handGrantEnd i g).steering = s.steering ∧ (s.handGrantEnd i g).sources = s.sources
    ∧ (s.handGrantEnd i g).classes = s.classes ∧ (s.handGrantEnd i g).alarm = s.alarm
    ∧ (s.handGrantEnd i g).dispatcher = s.dispatcher ∧ (s.handGrantEnd i g).lines = s.lines
    ∧ (s.handGrantEnd i g).journal = s.journal ∧ (s.handGrantEnd i g).link = s.link ∧ (s.handGrantEnd i g).session = s.session
    ∧ (s.handGrantEnd i g).store = s.store ∧ (s.handGrantEnd i g).power = s.power ∧ (s.handGrantEnd i g).choices = s.choices
    ∧ (s.handGrantEnd i g).pending = s.pending ∧ (s.handGrantEnd i g).flight.reports = s.flight.reports
    ∧ (s.handGrantEnd i g).flight.asks = s.flight.asks ∧ (s.handGrantEnd i g).flight.withdrawals = s.flight.withdrawals
    ∧ (s.handGrantEnd i g).flight.loss = s.flight.loss := by
  simp [State.handGrantEnd]

@[simp] theorem takeArrivals_frame (s : State) :
    s.takeArrivals.time = s.time ∧ s.takeArrivals.steering = s.steering ∧ s.takeArrivals.sources = s.sources
    ∧ s.takeArrivals.classes = s.classes ∧ s.takeArrivals.alarm = s.alarm ∧ s.takeArrivals.dispatcher = s.dispatcher
    ∧ s.takeArrivals.lines = s.lines ∧ s.takeArrivals.link = s.link ∧ s.takeArrivals.session = s.session
    ∧ s.takeArrivals.store = s.store ∧ s.takeArrivals.power = s.power ∧ s.takeArrivals.choices = s.choices
    ∧ s.takeArrivals.pending = s.pending ∧ s.takeArrivals.flight.reports = s.flight.reports
    ∧ s.takeArrivals.flight.asks = s.flight.asks ∧ s.takeArrivals.flight.withdrawals = s.flight.withdrawals
    ∧ s.takeArrivals.flight.loss = s.flight.loss := by
  simp [State.takeArrivals]

@[simp] theorem report_frame (s : State) (i : SourceNo) (b : Bool) :
    (s.report i b).time = s.time ∧ (s.report i b).steering = s.steering ∧ (s.report i b).sources = s.sources
    ∧ (s.report i b).classes = s.classes ∧ (s.report i b).alarm = s.alarm ∧ (s.report i b).dispatcher = s.dispatcher
    ∧ (s.report i b).lines = s.lines ∧ (s.report i b).journal = s.journal ∧ (s.report i b).link = s.link
    ∧ (s.report i b).session = s.session ∧ (s.report i b).store = s.store ∧ (s.report i b).power = s.power
    ∧ (s.report i b).choices = s.choices ∧ (s.report i b).pending = s.pending ∧ (s.report i b).flight.asks = s.flight.asks
    ∧ (s.report i b).flight.withdrawals = s.flight.withdrawals ∧ (s.report i b).flight.arrivals = s.flight.arrivals
    ∧ (s.report i b).flight.loss = s.flight.loss := by
  unfold State.report
  split <;> simp

@[simp] theorem tellWithdrawal_frame (s : State) (i : SourceNo) :
    (s.tellWithdrawal i).time = s.time ∧ (s.tellWithdrawal i).steering = s.steering ∧ (s.tellWithdrawal i).sources = s.sources
    ∧ (s.tellWithdrawal i).classes = s.classes ∧ (s.tellWithdrawal i).alarm = s.alarm
    ∧ (s.tellWithdrawal i).dispatcher = s.dispatcher ∧ (s.tellWithdrawal i).lines = s.lines
    ∧ (s.tellWithdrawal i).journal = s.journal ∧ (s.tellWithdrawal i).link = s.link ∧ (s.tellWithdrawal i).session = s.session
    ∧ (s.tellWithdrawal i).store = s.store ∧ (s.tellWithdrawal i).power = s.power ∧ (s.tellWithdrawal i).choices = s.choices
    ∧ (s.tellWithdrawal i).pending = s.pending ∧ (s.tellWithdrawal i).flight.reports = s.flight.reports
    ∧ (s.tellWithdrawal i).flight.asks = s.flight.asks ∧ (s.tellWithdrawal i).flight.arrivals = s.flight.arrivals
    ∧ (s.tellWithdrawal i).flight.loss = s.flight.loss := by
  simp [State.tellWithdrawal]

@[simp] theorem assertEvent_frame (s : State) (i : SourceNo) (f : Bool) :
    (s.assertEvent i f).time = s.time ∧ (s.assertEvent i f).steering = s.steering ∧ (s.assertEvent i f).classes = s.classes
    ∧ (s.assertEvent i f).alarm = s.alarm ∧ (s.assertEvent i f).dispatcher = s.dispatcher ∧ (s.assertEvent i f).lines = s.lines
    ∧ (s.assertEvent i f).journal = s.journal ∧ (s.assertEvent i f).link = s.link ∧ (s.assertEvent i f).session = s.session
    ∧ (s.assertEvent i f).store = s.store ∧ (s.assertEvent i f).power = s.power ∧ (s.assertEvent i f).choices = s.choices
    ∧ (s.assertEvent i f).pending = s.pending ∧ (s.assertEvent i f).flight.asks = s.flight.asks
    ∧ (s.assertEvent i f).flight.withdrawals = s.flight.withdrawals ∧ (s.assertEvent i f).flight.loss = s.flight.loss := by
  unfold State.assertEvent
  dsimp only
  split <;> simp

@[simp] theorem deriveLive_frame (s : State) (i : SourceNo) (f : Bool) :
    (s.deriveLive i f).time = s.time ∧ (s.deriveLive i f).steering = s.steering ∧ (s.deriveLive i f).classes = s.classes
    ∧ (s.deriveLive i f).alarm = s.alarm ∧ (s.deriveLive i f).dispatcher = s.dispatcher ∧ (s.deriveLive i f).lines = s.lines
    ∧ (s.deriveLive i f).journal = s.journal ∧ (s.deriveLive i f).link = s.link ∧ (s.deriveLive i f).session = s.session
    ∧ (s.deriveLive i f).store = s.store ∧ (s.deriveLive i f).power = s.power ∧ (s.deriveLive i f).choices = s.choices
    ∧ (s.deriveLive i f).pending = s.pending ∧ (s.deriveLive i f).flight.asks = s.flight.asks
    ∧ (s.deriveLive i f).flight.loss = s.flight.loss := by
  unfold State.deriveLive
  dsimp only
  split
  · simp
  · split <;> simp

@[simp] theorem transition_frame (s : State) (i : SourceNo) (l : Level) :
    (s.transition i l).time = s.time ∧ (s.transition i l).steering = s.steering ∧ (s.transition i l).classes = s.classes
    ∧ (s.transition i l).alarm = s.alarm ∧ (s.transition i l).dispatcher = s.dispatcher ∧ (s.transition i l).lines = s.lines
    ∧ (s.transition i l).journal = s.journal ∧ (s.transition i l).link = s.link ∧ (s.transition i l).session = s.session
    ∧ (s.transition i l).store = s.store ∧ (s.transition i l).power = s.power ∧ (s.transition i l).choices = s.choices
    ∧ (s.transition i l).pending = s.pending ∧ (s.transition i l).flight.asks = s.flight.asks
    ∧ (s.transition i l).flight.loss = s.flight.loss := by
  unfold State.transition
  dsimp only
  split
  · simp
  · split <;> simp

@[simp] theorem reevaluate_frame (s : State) (c : ClassNo) :
    (s.reevaluate c).time = s.time ∧ (s.reevaluate c).steering = s.steering ∧ (s.reevaluate c).sources = s.sources
    ∧ (s.reevaluate c).alarm = s.alarm ∧ (s.reevaluate c).dispatcher = s.dispatcher ∧ (s.reevaluate c).lines = s.lines
    ∧ (s.reevaluate c).journal = s.journal ∧ (s.reevaluate c).link = s.link ∧ (s.reevaluate c).session = s.session
    ∧ (s.reevaluate c).store = s.store ∧ (s.reevaluate c).power = s.power ∧ (s.reevaluate c).flight = s.flight
    ∧ (s.reevaluate c).choices = s.choices ∧ (s.reevaluate c).pending = s.pending := by
  simp [State.reevaluate]

@[simp] theorem evalAttn_frame (s : State) :
    s.evalAttn.time = s.time ∧ s.evalAttn.steering = s.steering ∧ s.evalAttn.sources = s.sources
    ∧ s.evalAttn.classes = s.classes ∧ s.evalAttn.alarm = s.alarm ∧ s.evalAttn.dispatcher = s.dispatcher
    ∧ s.evalAttn.lines = s.lines ∧ s.evalAttn.journal = s.journal ∧ s.evalAttn.link = s.link ∧ s.evalAttn.store = s.store
    ∧ s.evalAttn.power = s.power ∧ s.evalAttn.flight = s.flight ∧ s.evalAttn.choices = s.choices
    ∧ s.evalAttn.pending = s.pending ∧ s.evalAttn.session.up = s.session.up ∧ s.evalAttn.session.endCause = s.session.endCause
    ∧ s.evalAttn.session.credit = s.session.credit ∧ s.evalAttn.session.answerTimeout = s.session.answerTimeout
    ∧ s.evalAttn.session.retryLimit = s.session.retryLimit ∧ s.evalAttn.session.nesting = s.session.nesting := by
  simp [State.evalAttn]

@[simp] theorem detach_frame (s : State) (p : Byte → Bool) :
    (s.detach p).time = s.time ∧ (s.detach p).steering = s.steering ∧ (s.detach p).sources = s.sources
    ∧ (s.detach p).classes = s.classes ∧ (s.detach p).alarm = s.alarm ∧ (s.detach p).dispatcher = s.dispatcher
    ∧ (s.detach p).lines = s.lines ∧ (s.detach p).journal = s.journal ∧ (s.detach p).session = s.session
    ∧ (s.detach p).store = s.store ∧ (s.detach p).power = s.power ∧ (s.detach p).flight = s.flight
    ∧ (s.detach p).choices = s.choices ∧ (s.detach p).pending = s.pending ∧ (s.detach p).link.rateB = s.link.rateB
    ∧ (s.detach p).link.rateA = s.link.rateA ∧ (s.detach p).link.rate = s.link.rate
    ∧ (s.detach p).link.rxEnabled = s.link.rxEnabled ∧ (s.detach p).link.rxWait = s.link.rxWait
    ∧ (s.detach p).link.rx = s.link.rx ∧ (s.detach p).link.rxTimer = s.link.rxTimer
    ∧ (s.detach p).link.frameErrors = s.link.frameErrors ∧ (s.detach p).link.window = s.link.window
    ∧ (s.detach p).link.answers = s.link.answers ∧ (s.detach p).link.overrun = s.link.overrun
    ∧ (s.detach p).link.startPending = s.link.startPending := by
  simp [State.detach]

@[simp] theorem removeEntry_frame (s : State) (n : Byte) :
    (s.removeEntry n).time = s.time ∧ (s.removeEntry n).steering = s.steering ∧ (s.removeEntry n).sources = s.sources
    ∧ (s.removeEntry n).classes = s.classes ∧ (s.removeEntry n).alarm = s.alarm ∧ (s.removeEntry n).lines = s.lines
    ∧ (s.removeEntry n).journal = s.journal ∧ (s.removeEntry n).session = s.session ∧ (s.removeEntry n).store = s.store
    ∧ (s.removeEntry n).power = s.power ∧ (s.removeEntry n).flight = s.flight ∧ (s.removeEntry n).choices = s.choices
    ∧ (s.removeEntry n).pending = s.pending ∧ (s.removeEntry n).link.rateB = s.link.rateB
    ∧ (s.removeEntry n).link.rateA = s.link.rateA ∧ (s.removeEntry n).link.rate = s.link.rate
    ∧ (s.removeEntry n).link.rxEnabled = s.link.rxEnabled ∧ (s.removeEntry n).link.rxWait = s.link.rxWait
    ∧ (s.removeEntry n).link.rx = s.link.rx ∧ (s.removeEntry n).link.rxTimer = s.link.rxTimer
    ∧ (s.removeEntry n).link.frameErrors = s.link.frameErrors ∧ (s.removeEntry n).link.window = s.link.window
    ∧ (s.removeEntry n).link.answers = s.link.answers ∧ (s.removeEntry n).link.overrun = s.link.overrun
    ∧ (s.removeEntry n).link.startPending = s.link.startPending
    ∧ (s.removeEntry n).dispatcher.nextNumber = s.dispatcher.nextNumber := by
  simp [State.removeEntry, Dispatcher.remove, Dispatcher.dropFrames]

@[simp] theorem createNotice_frame (s : State) (c : ClassNo) :
    (s.createNotice c).time = s.time ∧ (s.createNotice c).steering = s.steering ∧ (s.createNotice c).sources = s.sources
    ∧ (s.createNotice c).alarm = s.alarm ∧ (s.createNotice c).lines = s.lines ∧ (s.createNotice c).journal = s.journal
    ∧ (s.createNotice c).link = s.link ∧ (s.createNotice c).session = s.session ∧ (s.createNotice c).store = s.store
    ∧ (s.createNotice c).power = s.power ∧ (s.createNotice c).choices = s.choices ∧ (s.createNotice c).pending = s.pending
    ∧ (s.createNotice c).flight.reports = s.flight.reports ∧ (s.createNotice c).flight.asks = s.flight.asks
    ∧ (s.createNotice c).flight.withdrawals = s.flight.withdrawals ∧ (s.createNotice c).flight.loss = s.flight.loss := by
  simp [State.createNotice]

@[simp] theorem dispatchAt_frame (s : State) (c : ClassNo) :
    (s.dispatchAt c).time = s.time ∧ (s.dispatchAt c).steering = s.steering ∧ (s.dispatchAt c).sources = s.sources
    ∧ (s.dispatchAt c).alarm = s.alarm ∧ (s.dispatchAt c).lines = s.lines ∧ (s.dispatchAt c).journal = s.journal
    ∧ (s.dispatchAt c).link = s.link ∧ (s.dispatchAt c).session = s.session ∧ (s.dispatchAt c).store = s.store
    ∧ (s.dispatchAt c).power = s.power ∧ (s.dispatchAt c).choices = s.choices ∧ (s.dispatchAt c).pending = s.pending
    ∧ (s.dispatchAt c).flight.reports = s.flight.reports ∧ (s.dispatchAt c).flight.asks = s.flight.asks
    ∧ (s.dispatchAt c).flight.withdrawals = s.flight.withdrawals ∧ (s.dispatchAt c).flight.loss = s.flight.loss := by
  unfold State.dispatchAt
  split <;> simp

/-! ### Transmitter, answers, arbiter, grant lines, teardown -/

@[simp] theorem send_frame (s : State) (f : Frame) (o : Origin) :
    (s.send f o).time = s.time ∧ (s.send f o).steering = s.steering ∧ (s.send f o).sources = s.sources
    ∧ (s.send f o).classes = s.classes ∧ (s.send f o).alarm = s.alarm ∧ (s.send f o).dispatcher = s.dispatcher
    ∧ (s.send f o).lines = s.lines ∧ (s.send f o).journal = s.journal ∧ (s.send f o).session = s.session
    ∧ (s.send f o).store = s.store ∧ (s.send f o).power = s.power ∧ (s.send f o).flight = s.flight
    ∧ (s.send f o).choices = s.choices ∧ (s.send f o).pending = s.pending ∧ (s.send f o).link.rateB = s.link.rateB
    ∧ (s.send f o).link.rateA = s.link.rateA ∧ (s.send f o).link.rate = s.link.rate
    ∧ (s.send f o).link.rxEnabled = s.link.rxEnabled ∧ (s.send f o).link.rxWait = s.link.rxWait
    ∧ (s.send f o).link.rx = s.link.rx ∧ (s.send f o).link.rxTimer = s.link.rxTimer
    ∧ (s.send f o).link.frameErrors = s.link.frameErrors ∧ (s.send f o).link.window = s.link.window
    ∧ (s.send f o).link.answers = s.link.answers ∧ (s.send f o).link.overrun = s.link.overrun
    ∧ (s.send f o).link.startPending = s.link.startPending := by
  simp [State.send]

@[simp] theorem sendStart_frame (s : State) :
    s.sendStart.time = s.time ∧ s.sendStart.steering = s.steering ∧ s.sendStart.sources = s.sources
    ∧ s.sendStart.classes = s.classes ∧ s.sendStart.alarm = s.alarm ∧ s.sendStart.dispatcher = s.dispatcher
    ∧ s.sendStart.lines = s.lines ∧ s.sendStart.journal = s.journal ∧ s.sendStart.session = s.session
    ∧ s.sendStart.store = s.store ∧ s.sendStart.power = s.power ∧ s.sendStart.flight = s.flight
    ∧ s.sendStart.choices = s.choices ∧ s.sendStart.pending = s.pending ∧ s.sendStart.link.rateB = s.link.rateB
    ∧ s.sendStart.link.rateA = s.link.rateA ∧ s.sendStart.link.rate = s.link.rate
    ∧ s.sendStart.link.rxEnabled = s.link.rxEnabled ∧ s.sendStart.link.rxWait = s.link.rxWait ∧ s.sendStart.link.rx = s.link.rx
    ∧ s.sendStart.link.rxTimer = s.link.rxTimer ∧ s.sendStart.link.frameErrors = s.link.frameErrors
    ∧ s.sendStart.link.window = s.link.window ∧ s.sendStart.link.answers = s.link.answers
    ∧ s.sendStart.link.overrun = s.link.overrun ∧ s.sendStart.link.startPending = s.link.startPending := by
  simp [State.sendStart]

@[simp] theorem sendAnswer_frame (s : State) (a : Answer) (rest : List Answer) :
    (s.sendAnswer a rest).time = s.time ∧ (s.sendAnswer a rest).steering = s.steering
    ∧ (s.sendAnswer a rest).sources = s.sources ∧ (s.sendAnswer a rest).classes = s.classes
    ∧ (s.sendAnswer a rest).alarm = s.alarm ∧ (s.sendAnswer a rest).dispatcher = s.dispatcher
    ∧ (s.sendAnswer a rest).lines = s.lines ∧ (s.sendAnswer a rest).journal = s.journal
    ∧ (s.sendAnswer a rest).session = s.session ∧ (s.sendAnswer a rest).store = s.store ∧ (s.sendAnswer a rest).power = s.power
    ∧ (s.sendAnswer a rest).flight = s.flight ∧ (s.sendAnswer a rest).choices = s.choices
    ∧ (s.sendAnswer a rest).pending = s.pending ∧ (s.sendAnswer a rest).link.rateB = s.link.rateB
    ∧ (s.sendAnswer a rest).link.rateA = s.link.rateA ∧ (s.sendAnswer a rest).link.rate = s.link.rate
    ∧ (s.sendAnswer a rest).link.rxEnabled = s.link.rxEnabled ∧ (s.sendAnswer a rest).link.rxWait = s.link.rxWait
    ∧ (s.sendAnswer a rest).link.rx = s.link.rx ∧ (s.sendAnswer a rest).link.rxTimer = s.link.rxTimer
    ∧ (s.sendAnswer a rest).link.frameErrors = s.link.frameErrors ∧ (s.sendAnswer a rest).link.window = s.link.window
    ∧ (s.sendAnswer a rest).link.startPending = s.link.startPending := by
  simp [State.sendAnswer]

@[simp] theorem sendNotice_frame (s : State) (f : NoticeFrame) :
    (s.sendNotice f).time = s.time ∧ (s.sendNotice f).steering = s.steering ∧ (s.sendNotice f).sources = s.sources
    ∧ (s.sendNotice f).classes = s.classes ∧ (s.sendNotice f).alarm = s.alarm ∧ (s.sendNotice f).lines = s.lines
    ∧ (s.sendNotice f).journal = s.journal ∧ (s.sendNotice f).session = s.session ∧ (s.sendNotice f).store = s.store
    ∧ (s.sendNotice f).power = s.power ∧ (s.sendNotice f).flight = s.flight ∧ (s.sendNotice f).choices = s.choices
    ∧ (s.sendNotice f).pending = s.pending ∧ (s.sendNotice f).link.rateB = s.link.rateB
    ∧ (s.sendNotice f).link.rateA = s.link.rateA ∧ (s.sendNotice f).link.rate = s.link.rate
    ∧ (s.sendNotice f).link.rxEnabled = s.link.rxEnabled ∧ (s.sendNotice f).link.rxWait = s.link.rxWait
    ∧ (s.sendNotice f).link.rx = s.link.rx ∧ (s.sendNotice f).link.rxTimer = s.link.rxTimer
    ∧ (s.sendNotice f).link.frameErrors = s.link.frameErrors ∧ (s.sendNotice f).link.window = s.link.window
    ∧ (s.sendNotice f).link.answers = s.link.answers ∧ (s.sendNotice f).link.overrun = s.link.overrun
    ∧ (s.sendNotice f).link.startPending = s.link.startPending ∧ (s.sendNotice f).dispatcher.entries = s.dispatcher.entries
    ∧ (s.sendNotice f).dispatcher.nextNumber = s.dispatcher.nextNumber := by
  simp [State.sendNotice]

@[simp] theorem transmit_frame (s : State) :
    s.transmit.time = s.time ∧ s.transmit.steering = s.steering ∧ s.transmit.sources = s.sources
    ∧ s.transmit.classes = s.classes ∧ s.transmit.alarm = s.alarm ∧ s.transmit.lines = s.lines ∧ s.transmit.journal = s.journal
    ∧ s.transmit.session = s.session ∧ s.transmit.store = s.store ∧ s.transmit.power = s.power ∧ s.transmit.flight = s.flight
    ∧ s.transmit.choices = s.choices ∧ s.transmit.pending = s.pending ∧ s.transmit.link.rateB = s.link.rateB
    ∧ s.transmit.link.rateA = s.link.rateA ∧ s.transmit.link.rate = s.link.rate ∧ s.transmit.link.rxEnabled = s.link.rxEnabled
    ∧ s.transmit.link.rxWait = s.link.rxWait ∧ s.transmit.link.rx = s.link.rx ∧ s.transmit.link.rxTimer = s.link.rxTimer
    ∧ s.transmit.link.frameErrors = s.link.frameErrors ∧ s.transmit.link.window = s.link.window
    ∧ s.transmit.link.startPending = s.link.startPending ∧ s.transmit.dispatcher.entries = s.dispatcher.entries
    ∧ s.transmit.dispatcher.nextNumber = s.dispatcher.nextNumber := by
  unfold State.transmit
  split
  · simp
  · split
    · simp
    · split
      · simp
      · split <;> simp

@[simp] theorem transmitJoined_frame (s : State) :
    s.transmitJoined.time = s.time ∧ s.transmitJoined.steering = s.steering ∧ s.transmitJoined.sources = s.sources
    ∧ s.transmitJoined.classes = s.classes ∧ s.transmitJoined.alarm = s.alarm ∧ s.transmitJoined.lines = s.lines
    ∧ s.transmitJoined.journal = s.journal ∧ s.transmitJoined.session = s.session ∧ s.transmitJoined.store = s.store
    ∧ s.transmitJoined.power = s.power ∧ s.transmitJoined.flight = s.flight ∧ s.transmitJoined.pending = s.pending
    ∧ s.transmitJoined.link.rateB = s.link.rateB ∧ s.transmitJoined.link.rateA = s.link.rateA
    ∧ s.transmitJoined.link.rate = s.link.rate ∧ s.transmitJoined.link.rxEnabled = s.link.rxEnabled
    ∧ s.transmitJoined.link.rxWait = s.link.rxWait ∧ s.transmitJoined.link.rx = s.link.rx
    ∧ s.transmitJoined.link.rxTimer = s.link.rxTimer ∧ s.transmitJoined.link.frameErrors = s.link.frameErrors
    ∧ s.transmitJoined.link.window = s.link.window ∧ s.transmitJoined.link.startPending = s.link.startPending
    ∧ s.transmitJoined.dispatcher.entries = s.dispatcher.entries
    ∧ s.transmitJoined.dispatcher.nextNumber = s.dispatcher.nextNumber := by
  unfold State.transmitJoined
  split
  · simp
  · split
    · dsimp only
      split <;> simp
    · simp

@[simp] theorem enqueue_frame (s : State) (o : Order) (r : Result) (f : List Byte) :
    (s.enqueue o r f).time = s.time ∧ (s.enqueue o r f).steering = s.steering ∧ (s.enqueue o r f).sources = s.sources
    ∧ (s.enqueue o r f).classes = s.classes ∧ (s.enqueue o r f).alarm = s.alarm ∧ (s.enqueue o r f).dispatcher = s.dispatcher
    ∧ (s.enqueue o r f).lines = s.lines ∧ (s.enqueue o r f).journal = s.journal ∧ (s.enqueue o r f).session = s.session
    ∧ (s.enqueue o r f).store = s.store ∧ (s.enqueue o r f).power = s.power ∧ (s.enqueue o r f).flight = s.flight
    ∧ (s.enqueue o r f).choices = s.choices ∧ (s.enqueue o r f).pending = s.pending
    ∧ (s.enqueue o r f).link.rateB = s.link.rateB ∧ (s.enqueue o r f).link.rateA = s.link.rateA
    ∧ (s.enqueue o r f).link.rate = s.link.rate ∧ (s.enqueue o r f).link.rxEnabled = s.link.rxEnabled
    ∧ (s.enqueue o r f).link.rxWait = s.link.rxWait ∧ (s.enqueue o r f).link.rx = s.link.rx
    ∧ (s.enqueue o r f).link.rxTimer = s.link.rxTimer ∧ (s.enqueue o r f).link.frameErrors = s.link.frameErrors
    ∧ (s.enqueue o r f).link.window = s.link.window ∧ (s.enqueue o r f).link.overrun = s.link.overrun
    ∧ (s.enqueue o r f).link.startPending = s.link.startPending ∧ (s.enqueue o r f).link.tx = s.link.tx := by
  simp [State.enqueue]

@[simp] theorem reply_frame (s : State) (o : Order) (r : Result) (f : List Byte) :
    (s.reply o r f).time = s.time ∧ (s.reply o r f).steering = s.steering ∧ (s.reply o r f).sources = s.sources
    ∧ (s.reply o r f).classes = s.classes ∧ (s.reply o r f).alarm = s.alarm ∧ (s.reply o r f).lines = s.lines
    ∧ (s.reply o r f).journal = s.journal ∧ (s.reply o r f).session = s.session ∧ (s.reply o r f).store = s.store
    ∧ (s.reply o r f).power = s.power ∧ (s.reply o r f).flight = s.flight ∧ (s.reply o r f).choices = s.choices
    ∧ (s.reply o r f).pending = s.pending ∧ (s.reply o r f).link.rateB = s.link.rateB
    ∧ (s.reply o r f).link.rateA = s.link.rateA ∧ (s.reply o r f).link.rate = s.link.rate
    ∧ (s.reply o r f).link.rxEnabled = s.link.rxEnabled ∧ (s.reply o r f).link.rxWait = s.link.rxWait
    ∧ (s.reply o r f).link.rx = s.link.rx ∧ (s.reply o r f).link.rxTimer = s.link.rxTimer
    ∧ (s.reply o r f).link.frameErrors = s.link.frameErrors ∧ (s.reply o r f).link.window = s.link.window
    ∧ (s.reply o r f).link.startPending = s.link.startPending ∧ (s.reply o r f).dispatcher.entries = s.dispatcher.entries
    ∧ (s.reply o r f).dispatcher.nextNumber = s.dispatcher.nextNumber := by
  simp [State.reply]

@[simp] theorem replyMalformed_frame (s : State) (o : Order) (p : List Byte) :
    (s.replyMalformed o p).time = s.time ∧ (s.replyMalformed o p).steering = s.steering
    ∧ (s.replyMalformed o p).sources = s.sources ∧ (s.replyMalformed o p).classes = s.classes
    ∧ (s.replyMalformed o p).alarm = s.alarm ∧ (s.replyMalformed o p).lines = s.lines
    ∧ (s.replyMalformed o p).journal = s.journal ∧ (s.replyMalformed o p).session = s.session
    ∧ (s.replyMalformed o p).store = s.store ∧ (s.replyMalformed o p).power = s.power
    ∧ (s.replyMalformed o p).flight = s.flight ∧ (s.replyMalformed o p).choices = s.choices
    ∧ (s.replyMalformed o p).pending = s.pending ∧ (s.replyMalformed o p).link.rateB = s.link.rateB
    ∧ (s.replyMalformed o p).link.rateA = s.link.rateA ∧ (s.replyMalformed o p).link.rate = s.link.rate
    ∧ (s.replyMalformed o p).link.rxEnabled = s.link.rxEnabled ∧ (s.replyMalformed o p).link.rxWait = s.link.rxWait
    ∧ (s.replyMalformed o p).link.rx = s.link.rx ∧ (s.replyMalformed o p).link.rxTimer = s.link.rxTimer
    ∧ (s.replyMalformed o p).link.frameErrors = s.link.frameErrors ∧ (s.replyMalformed o p).link.window = s.link.window
    ∧ (s.replyMalformed o p).link.startPending = s.link.startPending
    ∧ (s.replyMalformed o p).dispatcher.entries = s.dispatcher.entries
    ∧ (s.replyMalformed o p).dispatcher.nextNumber = s.dispatcher.nextNumber := by
  simp [State.replyMalformed]

@[simp] theorem dispatch_frame (s : State) :
    s.dispatch.time = s.time ∧ s.dispatch.steering = s.steering ∧ s.dispatch.sources = s.sources ∧ s.dispatch.alarm = s.alarm
    ∧ s.dispatch.lines = s.lines ∧ s.dispatch.journal = s.journal ∧ s.dispatch.link = s.link ∧ s.dispatch.session = s.session
    ∧ s.dispatch.store = s.store ∧ s.dispatch.power = s.power ∧ s.dispatch.choices = s.choices ∧ s.dispatch.pending = s.pending
    ∧ s.dispatch.flight.reports = s.flight.reports ∧ s.dispatch.flight.asks = s.flight.asks
    ∧ s.dispatch.flight.withdrawals = s.flight.withdrawals ∧ s.dispatch.flight.loss = s.flight.loss := by
  unfold State.dispatch
  generalize allClasses = l
  induction l generalizing s with
  | nil => simp
  | cons c l ih => simpa using ih (s.dispatchAt c)

@[simp] theorem replyAndDispatch_frame (s : State) (o : Order) (r : Result) (f : List Byte) :
    (s.replyAndDispatch o r f).time = s.time ∧ (s.replyAndDispatch o r f).steering = s.steering
    ∧ (s.replyAndDispatch o r f).sources = s.sources ∧ (s.replyAndDispatch o r f).alarm = s.alarm
    ∧ (s.replyAndDispatch o r f).lines = s.lines ∧ (s.replyAndDispatch o r f).journal = s.journal
    ∧ (s.replyAndDispatch o r f).store = s.store ∧ (s.replyAndDispatch o r f).power = s.power
    ∧ (s.replyAndDispatch o r f).pending = s.pending ∧ (s.replyAndDispatch o r f).link.rateB = s.link.rateB
    ∧ (s.replyAndDispatch o r f).link.rateA = s.link.rateA ∧ (s.replyAndDispatch o r f).link.rate = s.link.rate
    ∧ (s.replyAndDispatch o r f).link.rxEnabled = s.link.rxEnabled ∧ (s.replyAndDispatch o r f).link.rxWait = s.link.rxWait
    ∧ (s.replyAndDispatch o r f).link.rx = s.link.rx ∧ (s.replyAndDispatch o r f).link.rxTimer = s.link.rxTimer
    ∧ (s.replyAndDispatch o r f).link.frameErrors = s.link.frameErrors ∧ (s.replyAndDispatch o r f).link.window = s.link.window
    ∧ (s.replyAndDispatch o r f).link.startPending = s.link.startPending
    ∧ (s.replyAndDispatch o r f).flight.reports = s.flight.reports ∧ (s.replyAndDispatch o r f).flight.asks = s.flight.asks
    ∧ (s.replyAndDispatch o r f).flight.withdrawals = s.flight.withdrawals
    ∧ (s.replyAndDispatch o r f).flight.loss = s.flight.loss ∧ (s.replyAndDispatch o r f).session.up = s.session.up
    ∧ (s.replyAndDispatch o r f).session.endCause = s.session.endCause
    ∧ (s.replyAndDispatch o r f).session.credit = s.session.credit
    ∧ (s.replyAndDispatch o r f).session.answerTimeout = s.session.answerTimeout
    ∧ (s.replyAndDispatch o r f).session.retryLimit = s.session.retryLimit
    ∧ (s.replyAndDispatch o r f).session.nesting = s.session.nesting := by
  simp [State.replyAndDispatch]

@[simp] theorem settle_frame (s : State) :
    s.settle.time = s.time ∧ s.settle.steering = s.steering ∧ s.settle.sources = s.sources ∧ s.settle.alarm = s.alarm
    ∧ s.settle.lines = s.lines ∧ s.settle.journal = s.journal ∧ s.settle.store = s.store ∧ s.settle.power = s.power
    ∧ s.settle.choices = s.choices ∧ s.settle.pending = s.pending ∧ s.settle.link.rateB = s.link.rateB
    ∧ s.settle.link.rateA = s.link.rateA ∧ s.settle.link.rate = s.link.rate ∧ s.settle.link.rxEnabled = s.link.rxEnabled
    ∧ s.settle.link.rxWait = s.link.rxWait ∧ s.settle.link.rx = s.link.rx ∧ s.settle.link.rxTimer = s.link.rxTimer
    ∧ s.settle.link.frameErrors = s.link.frameErrors ∧ s.settle.link.window = s.link.window
    ∧ s.settle.link.startPending = s.link.startPending ∧ s.settle.flight.reports = s.flight.reports
    ∧ s.settle.flight.asks = s.flight.asks ∧ s.settle.flight.withdrawals = s.flight.withdrawals
    ∧ s.settle.flight.loss = s.flight.loss ∧ s.settle.session.up = s.session.up
    ∧ s.settle.session.endCause = s.session.endCause ∧ s.settle.session.credit = s.session.credit
    ∧ s.settle.session.answerTimeout = s.session.answerTimeout ∧ s.settle.session.retryLimit = s.session.retryLimit
    ∧ s.settle.session.nesting = s.session.nesting := by
  simp [State.settle]

@[simp] theorem enterWindow_frame (s : State) (o : Order) :
    (s.enterWindow o).time = s.time ∧ (s.enterWindow o).steering = s.steering ∧ (s.enterWindow o).sources = s.sources
    ∧ (s.enterWindow o).classes = s.classes ∧ (s.enterWindow o).alarm = s.alarm ∧ (s.enterWindow o).dispatcher = s.dispatcher
    ∧ (s.enterWindow o).lines = s.lines ∧ (s.enterWindow o).journal = s.journal ∧ (s.enterWindow o).session = s.session
    ∧ (s.enterWindow o).store = s.store ∧ (s.enterWindow o).power = s.power ∧ (s.enterWindow o).flight = s.flight
    ∧ (s.enterWindow o).choices = s.choices ∧ (s.enterWindow o).pending = s.pending
    ∧ (s.enterWindow o).link.rateB = s.link.rateB ∧ (s.enterWindow o).link.rateA = s.link.rateA
    ∧ (s.enterWindow o).link.rate = s.link.rate ∧ (s.enterWindow o).link.rxEnabled = s.link.rxEnabled
    ∧ (s.enterWindow o).link.rxWait = s.link.rxWait ∧ (s.enterWindow o).link.frameErrors = s.link.frameErrors
    ∧ (s.enterWindow o).link.answers = s.link.answers ∧ (s.enterWindow o).link.overrun = s.link.overrun
    ∧ (s.enterWindow o).link.startPending = s.link.startPending ∧ (s.enterWindow o).link.tx = s.link.tx := by
  simp [State.enterWindow]

@[simp] theorem waitQuiet_frame (s : State) (q : Quiet) (h : Nat) :
    (s.waitQuiet q h).time = s.time ∧ (s.waitQuiet q h).steering = s.steering ∧ (s.waitQuiet q h).sources = s.sources
    ∧ (s.waitQuiet q h).classes = s.classes ∧ (s.waitQuiet q h).alarm = s.alarm ∧ (s.waitQuiet q h).dispatcher = s.dispatcher
    ∧ (s.waitQuiet q h).lines = s.lines ∧ (s.waitQuiet q h).journal = s.journal ∧ (s.waitQuiet q h).session = s.session
    ∧ (s.waitQuiet q h).store = s.store ∧ (s.waitQuiet q h).power = s.power ∧ (s.waitQuiet q h).flight = s.flight
    ∧ (s.waitQuiet q h).choices = s.choices ∧ (s.waitQuiet q h).pending = s.pending
    ∧ (s.waitQuiet q h).link.rateB = s.link.rateB ∧ (s.waitQuiet q h).link.rateA = s.link.rateA
    ∧ (s.waitQuiet q h).link.rate = s.link.rate ∧ (s.waitQuiet q h).link.rxEnabled = s.link.rxEnabled
    ∧ (s.waitQuiet q h).link.rx = s.link.rx ∧ (s.waitQuiet q h).link.rxTimer = s.link.rxTimer
    ∧ (s.waitQuiet q h).link.frameErrors = s.link.frameErrors ∧ (s.waitQuiet q h).link.window = s.link.window
    ∧ (s.waitQuiet q h).link.answers = s.link.answers ∧ (s.waitQuiet q h).link.overrun = s.link.overrun
    ∧ (s.waitQuiet q h).link.startPending = s.link.startPending ∧ (s.waitQuiet q h).link.tx = s.link.tx := by
  simp [State.waitQuiet]

@[simp] theorem passOver_frame (s : State) (w : RxWait) (h : Nat) :
    (s.passOver w h).time = s.time ∧ (s.passOver w h).steering = s.steering ∧ (s.passOver w h).sources = s.sources
    ∧ (s.passOver w h).classes = s.classes ∧ (s.passOver w h).alarm = s.alarm ∧ (s.passOver w h).dispatcher = s.dispatcher
    ∧ (s.passOver w h).lines = s.lines ∧ (s.passOver w h).journal = s.journal ∧ (s.passOver w h).session = s.session
    ∧ (s.passOver w h).store = s.store ∧ (s.passOver w h).power = s.power ∧ (s.passOver w h).flight = s.flight
    ∧ (s.passOver w h).choices = s.choices ∧ (s.passOver w h).pending = s.pending ∧ (s.passOver w h).link.rateB = s.link.rateB
    ∧ (s.passOver w h).link.rateA = s.link.rateA ∧ (s.passOver w h).link.rate = s.link.rate
    ∧ (s.passOver w h).link.rxEnabled = s.link.rxEnabled ∧ (s.passOver w h).link.rx = s.link.rx
    ∧ (s.passOver w h).link.rxTimer = s.link.rxTimer ∧ (s.passOver w h).link.frameErrors = s.link.frameErrors
    ∧ (s.passOver w h).link.window = s.link.window ∧ (s.passOver w h).link.answers = s.link.answers
    ∧ (s.passOver w h).link.overrun = s.link.overrun ∧ (s.passOver w h).link.startPending = s.link.startPending
    ∧ (s.passOver w h).link.tx = s.link.tx := by
  unfold State.passOver
  split <;> simp

@[simp] theorem discard_frame (s : State) :
    s.discard.time = s.time ∧ s.discard.steering = s.steering ∧ s.discard.sources = s.sources ∧ s.discard.classes = s.classes
    ∧ s.discard.alarm = s.alarm ∧ s.discard.dispatcher = s.dispatcher ∧ s.discard.lines = s.lines
    ∧ s.discard.journal = s.journal ∧ s.discard.session = s.session ∧ s.discard.store = s.store ∧ s.discard.power = s.power
    ∧ s.discard.flight = s.flight ∧ s.discard.choices = s.choices ∧ s.discard.pending = s.pending
    ∧ s.discard.link.rateB = s.link.rateB ∧ s.discard.link.rateA = s.link.rateA ∧ s.discard.link.rate = s.link.rate
    ∧ s.discard.link.rxEnabled = s.link.rxEnabled ∧ s.discard.link.rxWait = s.link.rxWait
    ∧ s.discard.link.frameErrors = s.link.frameErrors ∧ s.discard.link.window = s.link.window
    ∧ s.discard.link.answers = s.link.answers ∧ s.discard.link.startPending = s.link.startPending
    ∧ s.discard.link.tx = s.link.tx := by
  simp [State.discard]

@[simp] theorem ask_frame (s : State) (l : List GrantAsk) :
    (s.ask l).time = s.time ∧ (s.ask l).steering = s.steering ∧ (s.ask l).sources = s.sources ∧ (s.ask l).classes = s.classes
    ∧ (s.ask l).alarm = s.alarm ∧ (s.ask l).dispatcher = s.dispatcher ∧ (s.ask l).lines = s.lines
    ∧ (s.ask l).journal = s.journal ∧ (s.ask l).link = s.link ∧ (s.ask l).session = s.session ∧ (s.ask l).store = s.store
    ∧ (s.ask l).power = s.power ∧ (s.ask l).choices = s.choices ∧ (s.ask l).pending = s.pending
    ∧ (s.ask l).flight.reports = s.flight.reports ∧ (s.ask l).flight.withdrawals = s.flight.withdrawals
    ∧ (s.ask l).flight.arrivals = s.flight.arrivals ∧ (s.ask l).flight.loss = s.flight.loss := by
  simp [State.ask]

@[simp] theorem takeGrant_frame (s : State) (i : SourceNo) (n : Byte) :
    (s.takeGrant i n).time = s.time ∧ (s.takeGrant i n).steering = s.steering ∧ (s.takeGrant i n).sources = s.sources
    ∧ (s.takeGrant i n).classes = s.classes ∧ (s.takeGrant i n).alarm = s.alarm ∧ (s.takeGrant i n).dispatcher = s.dispatcher
    ∧ (s.takeGrant i n).journal = s.journal ∧ (s.takeGrant i n).link = s.link ∧ (s.takeGrant i n).session = s.session
    ∧ (s.takeGrant i n).store = s.store ∧ (s.takeGrant i n).power = s.power ∧ (s.takeGrant i n).choices = s.choices
    ∧ (s.takeGrant i n).pending = s.pending ∧ (s.takeGrant i n).flight.reports = s.flight.reports
    ∧ (s.takeGrant i n).flight.asks = s.flight.asks ∧ (s.takeGrant i n).flight.withdrawals = s.flight.withdrawals
    ∧ (s.takeGrant i n).flight.loss = s.flight.loss := by
  unfold State.takeGrant
  split
  · split <;> simp
  · simp

@[simp] theorem takeFinish_frame (s : State) (n : Byte) :
    (s.takeFinish n).time = s.time ∧ (s.takeFinish n).steering = s.steering ∧ (s.takeFinish n).sources = s.sources
    ∧ (s.takeFinish n).classes = s.classes ∧ (s.takeFinish n).alarm = s.alarm ∧ (s.takeFinish n).dispatcher = s.dispatcher
    ∧ (s.takeFinish n).journal = s.journal ∧ (s.takeFinish n).link = s.link ∧ (s.takeFinish n).session = s.session
    ∧ (s.takeFinish n).store = s.store ∧ (s.takeFinish n).power = s.power ∧ (s.takeFinish n).flight = s.flight
    ∧ (s.takeFinish n).choices = s.choices ∧ (s.takeFinish n).pending = s.pending := by
  simp [State.takeFinish]

@[simp] theorem takeAsk_frame (s : State) (a : GrantAsk) :
    (s.takeAsk a).time = s.time ∧ (s.takeAsk a).steering = s.steering ∧ (s.takeAsk a).sources = s.sources
    ∧ (s.takeAsk a).classes = s.classes ∧ (s.takeAsk a).alarm = s.alarm ∧ (s.takeAsk a).dispatcher = s.dispatcher
    ∧ (s.takeAsk a).journal = s.journal ∧ (s.takeAsk a).link = s.link ∧ (s.takeAsk a).session = s.session
    ∧ (s.takeAsk a).store = s.store ∧ (s.takeAsk a).power = s.power ∧ (s.takeAsk a).choices = s.choices
    ∧ (s.takeAsk a).pending = s.pending ∧ (s.takeAsk a).flight.reports = s.flight.reports
    ∧ (s.takeAsk a).flight.asks = s.flight.asks ∧ (s.takeAsk a).flight.withdrawals = s.flight.withdrawals
    ∧ (s.takeAsk a).flight.loss = s.flight.loss := by
  cases a <;> simp [State.takeAsk]

@[simp] theorem takeAsks_frame (s : State) :
    s.takeAsks.time = s.time ∧ s.takeAsks.steering = s.steering ∧ s.takeAsks.sources = s.sources
    ∧ s.takeAsks.classes = s.classes ∧ s.takeAsks.alarm = s.alarm ∧ s.takeAsks.dispatcher = s.dispatcher
    ∧ s.takeAsks.journal = s.journal ∧ s.takeAsks.link = s.link ∧ s.takeAsks.session = s.session ∧ s.takeAsks.store = s.store
    ∧ s.takeAsks.power = s.power ∧ s.takeAsks.choices = s.choices ∧ s.takeAsks.pending = s.pending
    ∧ s.takeAsks.flight.reports = s.flight.reports ∧ s.takeAsks.flight.withdrawals = s.flight.withdrawals
    ∧ s.takeAsks.flight.loss = s.flight.loss := by
  unfold State.takeAsks
  generalize s.flight.asks = l
  have h : ∀ t : State,
      (l.foldl State.takeAsk t).time = t.time
      ∧ (l.foldl State.takeAsk t).steering = t.steering
      ∧ (l.foldl State.takeAsk t).sources = t.sources
      ∧ (l.foldl State.takeAsk t).classes = t.classes
      ∧ (l.foldl State.takeAsk t).alarm = t.alarm
      ∧ (l.foldl State.takeAsk t).dispatcher = t.dispatcher
      ∧ (l.foldl State.takeAsk t).journal = t.journal
      ∧ (l.foldl State.takeAsk t).link = t.link
      ∧ (l.foldl State.takeAsk t).session = t.session
      ∧ (l.foldl State.takeAsk t).store = t.store
      ∧ (l.foldl State.takeAsk t).power = t.power
      ∧ (l.foldl State.takeAsk t).choices = t.choices
      ∧ (l.foldl State.takeAsk t).pending = t.pending
      ∧ (l.foldl State.takeAsk t).flight.reports = t.flight.reports
      ∧ (l.foldl State.takeAsk t).flight.asks = t.flight.asks
      ∧ (l.foldl State.takeAsk t).flight.withdrawals = t.flight.withdrawals
      ∧ (l.foldl State.takeAsk t).flight.loss = t.flight.loss := by
    induction l with
    | nil => simp
    | cons a l ih => intro t; simpa using ih (t.takeAsk a)
  obtain ⟨h1, h2, h3, h4, h5, h6, h7, h8, h9, h10, h11, h12, h13, h14, -, h16, h17⟩ :=
    h { s with flight := { s.flight with asks := [] } }
  exact ⟨h1, h2, h3, h4, h5, h6, h7, h8, h9, h10, h11, h12, h13, h14, h16, h17⟩

@[simp] theorem endGrants_frame (s : State) :
    s.endGrants.time = s.time ∧ s.endGrants.steering = s.steering ∧ s.endGrants.sources = s.sources
    ∧ s.endGrants.classes = s.classes ∧ s.endGrants.alarm = s.alarm ∧ s.endGrants.dispatcher = s.dispatcher
    ∧ s.endGrants.journal = s.journal ∧ s.endGrants.link = s.link ∧ s.endGrants.session = s.session
    ∧ s.endGrants.store = s.store ∧ s.endGrants.power = s.power ∧ s.endGrants.choices = s.choices
    ∧ s.endGrants.pending = s.pending ∧ s.endGrants.flight.reports = s.flight.reports
    ∧ s.endGrants.flight.withdrawals = s.flight.withdrawals ∧ s.endGrants.flight.loss = s.flight.loss := by
  simp [State.endGrants]

@[simp] theorem teardown_frame (s : State) (e : EndCause) (k : RecordKind) (c : Option ClassNo) (n : Option Byte) :
    (s.teardown e k c n).time = s.time ∧ (s.teardown e k c n).steering = s.steering ∧ (s.teardown e k c n).sources = s.sources
    ∧ (s.teardown e k c n).alarm = s.alarm ∧ (s.teardown e k c n).journal = s.journal ∧ (s.teardown e k c n).store = s.store
    ∧ (s.teardown e k c n).power = s.power ∧ (s.teardown e k c n).choices = s.choices
    ∧ (s.teardown e k c n).pending = s.pending ∧ (s.teardown e k c n).link.rateB = s.link.rateB
    ∧ (s.teardown e k c n).link.rateA = s.link.rateA ∧ (s.teardown e k c n).link.rate = s.link.rate
    ∧ (s.teardown e k c n).link.rxEnabled = s.link.rxEnabled ∧ (s.teardown e k c n).link.rxWait = s.link.rxWait
    ∧ (s.teardown e k c n).link.rx = s.link.rx ∧ (s.teardown e k c n).link.rxTimer = s.link.rxTimer
    ∧ (s.teardown e k c n).link.frameErrors = s.link.frameErrors ∧ (s.teardown e k c n).link.window = s.link.window
    ∧ (s.teardown e k c n).link.answers = s.link.answers ∧ (s.teardown e k c n).link.overrun = s.link.overrun
    ∧ (s.teardown e k c n).link.startPending = s.link.startPending ∧ (s.teardown e k c n).flight.reports = s.flight.reports
    ∧ (s.teardown e k c n).flight.withdrawals = s.flight.withdrawals ∧ (s.teardown e k c n).session.credit = s.session.credit
    ∧ (s.teardown e k c n).session.answerTimeout = s.session.answerTimeout
    ∧ (s.teardown e k c n).session.retryLimit = s.session.retryLimit ∧ (s.teardown e k c n).session.nesting = s.session.nesting := by
  simp [State.teardown]

@[simp] theorem takeLoss_frame (s : State) :
    s.takeLoss.time = s.time ∧ s.takeLoss.steering = s.steering ∧ s.takeLoss.sources = s.sources ∧ s.takeLoss.alarm = s.alarm
    ∧ s.takeLoss.journal = s.journal ∧ s.takeLoss.store = s.store ∧ s.takeLoss.power = s.power ∧ s.takeLoss.choices = s.choices
    ∧ s.takeLoss.pending = s.pending ∧ s.takeLoss.link.rateB = s.link.rateB ∧ s.takeLoss.link.rateA = s.link.rateA
    ∧ s.takeLoss.link.rate = s.link.rate ∧ s.takeLoss.link.rxEnabled = s.link.rxEnabled
    ∧ s.takeLoss.link.rxWait = s.link.rxWait ∧ s.takeLoss.link.rx = s.link.rx ∧ s.takeLoss.link.rxTimer = s.link.rxTimer
    ∧ s.takeLoss.link.frameErrors = s.link.frameErrors ∧ s.takeLoss.link.window = s.link.window
    ∧ s.takeLoss.link.answers = s.link.answers ∧ s.takeLoss.link.overrun = s.link.overrun
    ∧ s.takeLoss.link.startPending = s.link.startPending ∧ s.takeLoss.session.credit = s.session.credit
    ∧ s.takeLoss.session.answerTimeout = s.session.answerTimeout ∧ s.takeLoss.session.retryLimit = s.session.retryLimit
    ∧ s.takeLoss.session.nesting = s.session.nesting ∧ s.takeLoss.flight.reports = s.flight.reports
    ∧ s.takeLoss.flight.withdrawals = s.flight.withdrawals := by
  unfold State.takeLoss
  split <;> simp

@[simp] theorem loadTables_frame (s : State) (p : Profile) :
    (s.loadTables p).time = s.time ∧ (s.loadTables p).classes = s.classes ∧ (s.loadTables p).alarm = s.alarm
    ∧ (s.loadTables p).dispatcher = s.dispatcher ∧ (s.loadTables p).journal = s.journal ∧ (s.loadTables p).link = s.link
    ∧ (s.loadTables p).session = s.session ∧ (s.loadTables p).store = s.store ∧ (s.loadTables p).power = s.power
    ∧ (s.loadTables p).flight = s.flight ∧ (s.loadTables p).choices = s.choices ∧ (s.loadTables p).pending = s.pending := by
  simp [State.loadTables]

@[simp] theorem loadClasses_frame (s : State) (p : Profile) :
    (s.loadClasses p).time = s.time ∧ (s.loadClasses p).steering = s.steering ∧ (s.loadClasses p).sources = s.sources
    ∧ (s.loadClasses p).alarm = s.alarm ∧ (s.loadClasses p).dispatcher = s.dispatcher ∧ (s.loadClasses p).lines = s.lines
    ∧ (s.loadClasses p).journal = s.journal ∧ (s.loadClasses p).link = s.link ∧ (s.loadClasses p).session = s.session
    ∧ (s.loadClasses p).store = s.store ∧ (s.loadClasses p).power = s.power ∧ (s.loadClasses p).flight = s.flight
    ∧ (s.loadClasses p).choices = s.choices ∧ (s.loadClasses p).pending = s.pending := by
  simp [State.loadClasses]

end Sys2Proof.Laws
end

