-- ==== Sys2Proof/Laws/MeaningFrames.lean ====
section
/-! SUPPORT. For each operation of one block, once: the components of State that it leaves as they were. -/

namespace Sys2Proof.Laws

open Sys2Proof.Machine

@[simp] theorem updateEntry_frame (s : State) (n : Byte) (f : NoticeEntry → NoticeEntry) :
    (s.updateEntry n f).time = s.time ∧ (s.updateEntry n f).steering = s.steering ∧ (s.updateEntry n f).sources = s.sources
    ∧ (s.updateEntry n f).classes = s.classes ∧ (s.updateEntry n f).alarm = s.alarm ∧ (s.updateEntry n f).lines = s.lines
    ∧ (s.updateEntry n f).journal = s.journal ∧ (s.updateEntry n f).link = s.link ∧ (s.updateEntry n f).session = s.session
    ∧ (s.updateEntry n f).store = s.store ∧ (s.updateEntry n f).power = s.power ∧ (s.updateEntry n f).flight = s.flight
    ∧ (s.updateEntry n f).choices = s.choices ∧ (s.updateEntry n f).pending = s.pending
    ∧ (s.updateEntry n f).dispatcher.nextNumber = s.dispatcher.nextNumber
    ∧ (s.updateEntry n f).dispatcher.sendList = s.dispatcher.sendList := by
  simp [State.updateEntry, Dispatcher.update]

@[simp] theorem joinFrame_frame (s : State) (f : NoticeFrame) :
    (s.joinFrame f).time = s.time ∧ (s.joinFrame f).steering = s.steering ∧ (s.joinFrame f).sources = s.sources
    ∧ (s.joinFrame f).classes = s.classes ∧ (s.joinFrame f).alarm = s.alarm ∧ (s.joinFrame f).lines = s.lines
    ∧ (s.joinFrame f).journal = s.journal ∧ (s.joinFrame f).link = s.link ∧ (s.joinFrame f).session = s.session
    ∧ (s.joinFrame f).store = s.store ∧ (s.joinFrame f).power = s.power ∧ (s.joinFrame f).flight = s.flight
    ∧ (s.joinFrame f).choices = s.choices ∧ (s.joinFrame f).pending = s.pending
    ∧ (s.joinFrame f).dispatcher.entries = s.dispatcher.entries
    ∧ (s.joinFrame f).dispatcher.nextNumber = s.dispatcher.nextNumber := by
  simp [State.joinFrame, Dispatcher.join]

@[simp] theorem clearClaimed_frame (s : State) (c : ClassNo) (l : List ClaimItem) :
    (s.clearClaimed c l).time = s.time ∧ (s.clearClaimed c l).steering = s.steering ∧ (s.clearClaimed c l).classes = s.classes
    ∧ (s.clearClaimed c l).alarm = s.alarm ∧ (s.clearClaimed c l).dispatcher = s.dispatcher
    ∧ (s.clearClaimed c l).lines = s.lines ∧ (s.clearClaimed c l).journal = s.journal ∧ (s.clearClaimed c l).link = s.link
    ∧ (s.clearClaimed c l).session = s.session ∧ (s.clearClaimed c l).store = s.store ∧ (s.clearClaimed c l).power = s.power
    ∧ (s.clearClaimed c l).choices = s.choices ∧ (s.clearClaimed c l).pending = s.pending
    ∧ (s.clearClaimed c l).flight.asks = s.flight.asks ∧ (s.clearClaimed c l).flight.withdrawals = s.flight.withdrawals
    ∧ (s.clearClaimed c l).flight.arrivals = s.flight.arrivals ∧ (s.clearClaimed c l).flight.loss = s.flight.loss := by
  simp [State.clearClaimed]

@[simp] theorem popAsk_frame (s : State) :
    s.popAsk.time = s.time ∧ s.popAsk.steering = s.steering ∧ s.popAsk.sources = s.sources ∧ s.popAsk.classes = s.classes
    ∧ s.popAsk.alarm = s.alarm ∧ s.popAsk.dispatcher = s.dispatcher ∧ s.popAsk.lines = s.lines ∧ s.popAsk.journal = s.journal
    ∧ s.popAsk.link = s.link ∧ s.popAsk.session = s.session ∧ s.popAsk.store = s.store ∧ s.popAsk.power = s.power
    ∧ s.popAsk.choices = s.choices ∧ s.popAsk.pending = s.pending ∧ s.popAsk.flight.reports = s.flight.reports
    ∧ s.popAsk.flight.withdrawals = s.flight.withdrawals ∧ s.popAsk.flight.arrivals = s.flight.arrivals
    ∧ s.popAsk.flight.loss = s.flight.loss := by
  simp [State.popAsk]

@[simp] theorem takeWithdrawal_frame (s : State) (i : SourceNo) :
    (s.takeWithdrawal i).time = s.time ∧ (s.takeWithdrawal i).steering = s.steering ∧ (s.takeWithdrawal i).sources = s.sources
    ∧ (s.takeWithdrawal i).classes = s.classes ∧ (s.takeWithdrawal i).alarm = s.alarm
    ∧ (s.takeWithdrawal i).dispatcher = s.dispatcher ∧ (s.takeWithdrawal i).journal = s.journal
    ∧ (s.takeWithdrawal i).link = s.link ∧ (s.takeWithdrawal i).session = s.session ∧ (s.takeWithdrawal i).store = s.store
    ∧ (s.takeWithdrawal i).power = s.power ∧ (s.takeWithdrawal i).choices = s.choices
    ∧ (s.takeWithdrawal i).pending = s.pending ∧ (s.takeWithdrawal i).flight.reports = s.flight.reports
    ∧ (s.takeWithdrawal i).flight.asks = s.flight.asks ∧ (s.takeWithdrawal i).flight.withdrawals = s.flight.withdrawals
    ∧ (s.takeWithdrawal i).flight.loss = s.flight.loss := by
  unfold State.takeWithdrawal
  split
  · split <;> simp
  · simp

@[simp] theorem dropReports_frame (s : State) (i : SourceNo) :
    (s.dropReports i).time = s.time ∧ (s.dropReports i).steering = s.steering ∧ (s.dropReports i).sources = s.sources
    ∧ (s.dropReports i).classes = s.classes ∧ (s.dropReports i).alarm = s.alarm ∧ (s.dropReports i).dispatcher = s.dispatcher
    ∧ (s.dropReports i).lines = s.lines ∧ (s.dropReports i).journal = s.journal ∧ (s.dropReports i).link = s.link
    ∧ (s.dropReports i).session = s.session ∧ (s.dropReports i).store = s.store ∧ (s.dropReports i).power = s.power
    ∧ (s.dropReports i).choices = s.choices ∧ (s.dropReports i).pending = s.pending
    ∧ (s.dropReports i).flight.asks = s.flight.asks ∧ (s.dropReports i).flight.withdrawals = s.flight.withdrawals
    ∧ (s.dropReports i).flight.arrivals = s.flight.arrivals ∧ (s.dropReports i).flight.loss = s.flight.loss := by
  simp [State.dropReports]

@[simp] theorem replaceEntry_frame (s : State) (i : SourceNo) (e : SteerEntry) :
    (s.replaceEntry i e).time = s.time ∧ (s.replaceEntry i e).classes = s.classes ∧ (s.replaceEntry i e).alarm = s.alarm
    ∧ (s.replaceEntry i e).dispatcher = s.dispatcher ∧ (s.replaceEntry i e).lines = s.lines
    ∧ (s.replaceEntry i e).journal = s.journal ∧ (s.replaceEntry i e).link = s.link ∧ (s.replaceEntry i e).session = s.session
    ∧ (s.replaceEntry i e).store = s.store ∧ (s.replaceEntry i e).power = s.power ∧ (s.replaceEntry i e).choices = s.choices
    ∧ (s.replaceEntry i e).pending = s.pending ∧ (s.replaceEntry i e).flight.asks = s.flight.asks
    ∧ (s.replaceEntry i e).flight.withdrawals = s.flight.withdrawals ∧ (s.replaceEntry i e).flight.arrivals = s.flight.arrivals
    ∧ (s.replaceEntry i e).flight.loss = s.flight.loss := by
  unfold State.replaceEntry
  split <;> simp

@[simp] theorem reevaluateSteered_frame (s : State) (c : Option ClassNo) :
    (s.reevaluateSteered c).time = s.time ∧ (s.reevaluateSteered c).steering = s.steering
    ∧ (s.reevaluateSteered c).sources = s.sources ∧ (s.reevaluateSteered c).alarm = s.alarm
    ∧ (s.reevaluateSteered c).dispatcher = s.dispatcher ∧ (s.reevaluateSteered c).lines = s.lines
    ∧ (s.reevaluateSteered c).journal = s.journal ∧ (s.reevaluateSteered c).link = s.link
    ∧ (s.reevaluateSteered c).session = s.session ∧ (s.reevaluateSteered c).store = s.store
    ∧ (s.reevaluateSteered c).power = s.power ∧ (s.reevaluateSteered c).flight = s.flight
    ∧ (s.reevaluateSteered c).choices = s.choices ∧ (s.reevaluateSteered c).pending = s.pending := by
  cases c <;> simp [State.reevaluateSteered]

@[simp] theorem steerTo_frame (s : State) (i : SourceNo) (e : SteerEntry) :
    (s.steerTo i e).time = s.time ∧ (s.steerTo i e).alarm = s.alarm ∧ (s.steerTo i e).dispatcher = s.dispatcher
    ∧ (s.steerTo i e).lines = s.lines ∧ (s.steerTo i e).journal = s.journal ∧ (s.steerTo i e).link = s.link
    ∧ (s.steerTo i e).session = s.session ∧ (s.steerTo i e).store = s.store ∧ (s.steerTo i e).power = s.power
    ∧ (s.steerTo i e).choices = s.choices ∧ (s.steerTo i e).pending = s.pending ∧ (s.steerTo i e).flight.asks = s.flight.asks
    ∧ (s.steerTo i e).flight.withdrawals = s.flight.withdrawals ∧ (s.steerTo i e).flight.arrivals = s.flight.arrivals
    ∧ (s.steerTo i e).flight.loss = s.flight.loss := by
  unfold State.steerTo
  dsimp only
  split <;> simp

@[simp] theorem force_frame (s : State) (i : SourceNo) (a : ForceAction) :
    (s.force i a).time = s.time ∧ (s.force i a).steering = s.steering ∧ (s.force i a).classes = s.classes
    ∧ (s.force i a).alarm = s.alarm ∧ (s.force i a).dispatcher = s.dispatcher ∧ (s.force i a).lines = s.lines
    ∧ (s.force i a).journal = s.journal ∧ (s.force i a).link = s.link ∧ (s.force i a).session = s.session
    ∧ (s.force i a).store = s.store ∧ (s.force i a).power = s.power ∧ (s.force i a).choices = s.choices
    ∧ (s.force i a).pending = s.pending ∧ (s.force i a).flight.asks = s.flight.asks ∧ (s.force i a).flight.loss = s.flight.loss := by
  cases a <;> simp [State.force]

@[simp] theorem takeReport_frame (s : State) (r : Report) :
    (s.takeReport r).time = s.time ∧ (s.takeReport r).steering = s.steering ∧ (s.takeReport r).sources = s.sources
    ∧ (s.takeReport r).alarm = s.alarm ∧ (s.takeReport r).dispatcher = s.dispatcher ∧ (s.takeReport r).lines = s.lines
    ∧ (s.takeReport r).journal = s.journal ∧ (s.takeReport r).link = s.link ∧ (s.takeReport r).session = s.session
    ∧ (s.takeReport r).store = s.store ∧ (s.takeReport r).power = s.power ∧ (s.takeReport r).flight = s.flight
    ∧ (s.takeReport r).choices = s.choices ∧ (s.takeReport r).pending = s.pending := by
  simp [State.takeReport]

@[simp] theorem setMasks_frame (s : State) (m : Half) (b : Bool) :
    (s.setMasks m b).time = s.time ∧ (s.setMasks m b).steering = s.steering ∧ (s.setMasks m b).sources = s.sources
    ∧ (s.setMasks m b).alarm = s.alarm ∧ (s.setMasks m b).dispatcher = s.dispatcher ∧ (s.setMasks m b).lines = s.lines
    ∧ (s.setMasks m b).journal = s.journal ∧ (s.setMasks m b).link = s.link ∧ (s.setMasks m b).session = s.session
    ∧ (s.setMasks m b).store = s.store ∧ (s.setMasks m b).power = s.power ∧ (s.setMasks m b).flight = s.flight
    ∧ (s.setMasks m b).choices = s.choices ∧ (s.setMasks m b).pending = s.pending := by
  simp [State.setMasks]

@[simp] theorem openWith_frame (s : State) (p : SessionParams) :
    (s.openWith p).time = s.time ∧ (s.openWith p).steering = s.steering ∧ (s.openWith p).sources = s.sources
    ∧ (s.openWith p).classes = s.classes ∧ (s.openWith p).alarm = s.alarm ∧ (s.openWith p).lines = s.lines
    ∧ (s.openWith p).journal = s.journal ∧ (s.openWith p).link = s.link ∧ (s.openWith p).store = s.store
    ∧ (s.openWith p).power = s.power ∧ (s.openWith p).choices = s.choices ∧ (s.openWith p).pending = s.pending
    ∧ (s.openWith p).flight.reports = s.flight.reports ∧ (s.openWith p).flight.asks = s.flight.asks
    ∧ (s.openWith p).flight.withdrawals = s.flight.withdrawals ∧ (s.openWith p).flight.loss = s.flight.loss
    ∧ (s.openWith p).dispatcher.entries = s.dispatcher.entries := by
  simp [State.openWith]

@[simp] theorem answerExpired_frame (s : State) (e : NoticeEntry) :
    (s.answerExpired e).time = s.time ∧ (s.answerExpired e).steering = s.steering ∧ (s.answerExpired e).sources = s.sources
    ∧ (s.answerExpired e).classes = s.classes ∧ (s.answerExpired e).alarm = s.alarm ∧ (s.answerExpired e).lines = s.lines
    ∧ (s.answerExpired e).journal = s.journal ∧ (s.answerExpired e).session = s.session ∧ (s.answerExpired e).store = s.store
    ∧ (s.answerExpired e).power = s.power ∧ (s.answerExpired e).choices = s.choices ∧ (s.answerExpired e).pending = s.pending
    ∧ (s.answerExpired e).link.rateB = s.link.rateB ∧ (s.answerExpired e).link.rateA = s.link.rateA
    ∧ (s.answerExpired e).link.rate = s.link.rate ∧ (s.answerExpired e).link.rxEnabled = s.link.rxEnabled
    ∧ (s.answerExpired e).link.rxWait = s.link.rxWait ∧ (s.answerExpired e).link.rx = s.link.rx
    ∧ (s.answerExpired e).link.rxTimer = s.link.rxTimer ∧ (s.answerExpired e).link.frameErrors = s.link.frameErrors
    ∧ (s.answerExpired e).link.window = s.link.window ∧ (s.answerExpired e).link.startPending = s.link.startPending
    ∧ (s.answerExpired e).flight.reports = s.flight.reports ∧ (s.answerExpired e).flight.asks = s.flight.asks
    ∧ (s.answerExpired e).flight.withdrawals = s.flight.withdrawals ∧ (s.answerExpired e).flight.arrivals = s.flight.arrivals := by
  unfold State.answerExpired
  dsimp only
  split <;> simp

@[simp] theorem serviceExpired_frame (s : State) (e : NoticeEntry) :
    (s.serviceExpired e).time = s.time ∧ (s.serviceExpired e).steering = s.steering ∧ (s.serviceExpired e).sources = s.sources
    ∧ (s.serviceExpired e).alarm = s.alarm ∧ (s.serviceExpired e).lines = s.lines ∧ (s.serviceExpired e).journal = s.journal
    ∧ (s.serviceExpired e).store = s.store ∧ (s.serviceExpired e).power = s.power ∧ (s.serviceExpired e).choices = s.choices
    ∧ (s.serviceExpired e).pending = s.pending ∧ (s.serviceExpired e).link.rateB = s.link.rateB
    ∧ (s.serviceExpired e).link.rateA = s.link.rateA ∧ (s.serviceExpired e).link.rate = s.link.rate
    ∧ (s.serviceExpired e).link.rxEnabled = s.link.rxEnabled ∧ (s.serviceExpired e).link.rxWait = s.link.rxWait
    ∧ (s.serviceExpired e).link.rx = s.link.rx ∧ (s.serviceExpired e).link.rxTimer = s.link.rxTimer
    ∧ (s.serviceExpired e).link.frameErrors = s.link.frameErrors ∧ (s.serviceExpired e).link.window = s.link.window
    ∧ (s.serviceExpired e).link.startPending = s.link.startPending ∧ (s.serviceExpired e).flight.reports = s.flight.reports
    ∧ (s.serviceExpired e).flight.withdrawals = s.flight.withdrawals ∧ (s.serviceExpired e).flight.loss = s.flight.loss
    ∧ (s.serviceExpired e).session.up = s.session.up ∧ (s.serviceExpired e).session.endCause = s.session.endCause
    ∧ (s.serviceExpired e).session.credit = s.session.credit
    ∧ (s.serviceExpired e).session.answerTimeout = s.session.answerTimeout
    ∧ (s.serviceExpired e).session.retryLimit = s.session.retryLimit ∧ (s.serviceExpired e).session.nesting = s.session.nesting := by
  simp [State.serviceExpired]

@[simp] theorem beginSave_frame (s : State) (o : Order) (n : SlotNo) :
    (s.beginSave o n).time = s.time ∧ (s.beginSave o n).steering = s.steering ∧ (s.beginSave o n).sources = s.sources
    ∧ (s.beginSave o n).classes = s.classes ∧ (s.beginSave o n).alarm = s.alarm ∧ (s.beginSave o n).dispatcher = s.dispatcher
    ∧ (s.beginSave o n).lines = s.lines ∧ (s.beginSave o n).journal = s.journal ∧ (s.beginSave o n).link = s.link
    ∧ (s.beginSave o n).session = s.session ∧ (s.beginSave o n).power = s.power ∧ (s.beginSave o n).flight = s.flight
    ∧ (s.beginSave o n).pending = s.pending := by
  simp [State.beginSave, Store.setSlot]

@[simp] theorem loadProfile_frame (s : State) (n : SlotNo) (p : Profile) :
    (s.loadProfile n p).time = s.time ∧ (s.loadProfile n p).alarm = s.alarm ∧ (s.loadProfile n p).dispatcher = s.dispatcher
    ∧ (s.loadProfile n p).journal = s.journal ∧ (s.loadProfile n p).link = s.link ∧ (s.loadProfile n p).session = s.session
    ∧ (s.loadProfile n p).store = s.store ∧ (s.loadProfile n p).power = s.power ∧ (s.loadProfile n p).choices = s.choices
    ∧ (s.loadProfile n p).pending = s.pending := by
  simp [State.loadProfile]

@[simp] theorem frameFails_frame (s : State) :
    s.frameFails.time = s.time ∧ s.frameFails.steering = s.steering ∧ s.frameFails.sources = s.sources
    ∧ s.frameFails.classes = s.classes ∧ s.frameFails.alarm = s.alarm ∧ s.frameFails.dispatcher = s.dispatcher
    ∧ s.frameFails.lines = s.lines ∧ s.frameFails.journal = s.journal ∧ s.frameFails.session = s.session
    ∧ s.frameFails.store = s.store ∧ s.frameFails.power = s.power ∧ s.frameFails.flight = s.flight
    ∧ s.frameFails.choices = s.choices ∧ s.frameFails.pending = s.pending ∧ s.frameFails.link.rateB = s.link.rateB
    ∧ s.frameFails.link.rateA = s.link.rateA ∧ s.frameFails.link.rate = s.link.rate
    ∧ s.frameFails.link.rxEnabled = s.link.rxEnabled ∧ s.frameFails.link.rxWait = s.link.rxWait
    ∧ s.frameFails.link.window = s.link.window ∧ s.frameFails.link.answers = s.link.answers
    ∧ s.frameFails.link.overrun = s.link.overrun ∧ s.frameFails.link.startPending = s.link.startPending
    ∧ s.frameFails.link.tx = s.link.tx := by
  simp [State.frameFails]

@[simp] theorem characterError_frame (s : State) :
    (s.characterError).time = s.time ∧ (s.characterError).steering = s.steering ∧ (s.characterError).sources = s.sources
    ∧ (s.characterError).classes = s.classes ∧ (s.characterError).alarm = s.alarm
    ∧ (s.characterError).dispatcher = s.dispatcher ∧ (s.characterError).lines = s.lines
    ∧ (s.characterError).journal = s.journal ∧ (s.characterError).session = s.session ∧ (s.characterError).store = s.store
    ∧ (s.characterError).power = s.power ∧ (s.characterError).flight = s.flight ∧ (s.characterError).choices = s.choices
    ∧ (s.characterError).pending = s.pending ∧ (s.characterError).link.rateB = s.link.rateB
    ∧ (s.characterError).link.rateA = s.link.rateA ∧ (s.characterError).link.rate = s.link.rate
    ∧ (s.characterError).link.rxEnabled = s.link.rxEnabled ∧ (s.characterError).link.window = s.link.window
    ∧ (s.characterError).link.answers = s.link.answers ∧ (s.characterError).link.overrun = s.link.overrun
    ∧ (s.characterError).link.startPending = s.link.startPending ∧ (s.characterError).link.tx = s.link.tx := by
  unfold State.characterError
  split <;> simp

@[simp] theorem receiveTo_frame (s : State) (r : Receive) :
    (s.receiveTo r).time = s.time ∧ (s.receiveTo r).steering = s.steering ∧ (s.receiveTo r).sources = s.sources
    ∧ (s.receiveTo r).classes = s.classes ∧ (s.receiveTo r).alarm = s.alarm ∧ (s.receiveTo r).dispatcher = s.dispatcher
    ∧ (s.receiveTo r).lines = s.lines ∧ (s.receiveTo r).journal = s.journal ∧ (s.receiveTo r).session = s.session
    ∧ (s.receiveTo r).store = s.store ∧ (s.receiveTo r).power = s.power ∧ (s.receiveTo r).flight = s.flight
    ∧ (s.receiveTo r).choices = s.choices ∧ (s.receiveTo r).pending = s.pending ∧ (s.receiveTo r).link.rateB = s.link.rateB
    ∧ (s.receiveTo r).link.rateA = s.link.rateA ∧ (s.receiveTo r).link.rate = s.link.rate
    ∧ (s.receiveTo r).link.rxEnabled = s.link.rxEnabled ∧ (s.receiveTo r).link.rxWait = s.link.rxWait
    ∧ (s.receiveTo r).link.frameErrors = s.link.frameErrors ∧ (s.receiveTo r).link.window = s.link.window
    ∧ (s.receiveTo r).link.answers = s.link.answers ∧ (s.receiveTo r).link.overrun = s.link.overrun
    ∧ (s.receiveTo r).link.startPending = s.link.startPending ∧ (s.receiveTo r).link.tx = s.link.tx := by
  simp [State.receiveTo]

@[simp] theorem rawChange_frame (s : State) (i : SourceNo) (l : Level) :
    (s.rawChange i l).time = s.time ∧ (s.rawChange i l).steering = s.steering ∧ (s.rawChange i l).classes = s.classes
    ∧ (s.rawChange i l).alarm = s.alarm ∧ (s.rawChange i l).dispatcher = s.dispatcher ∧ (s.rawChange i l).lines = s.lines
    ∧ (s.rawChange i l).journal = s.journal ∧ (s.rawChange i l).link = s.link ∧ (s.rawChange i l).session = s.session
    ∧ (s.rawChange i l).store = s.store ∧ (s.rawChange i l).power = s.power ∧ (s.rawChange i l).choices = s.choices
    ∧ (s.rawChange i l).pending = s.pending ∧ (s.rawChange i l).flight.asks = s.flight.asks
    ∧ (s.rawChange i l).flight.loss = s.flight.loss := by
  unfold State.rawChange
  dsimp only
  split
  · simp
  · split
    · simp
    · split
      · simp
      · split
        · simp
        · split <;> simp

end Sys2Proof.Laws
end

