-- ==== Sys2Proof/Laws/Ops.lean ====
section
/-! SUPPORT. For each shared operation that chooses or repeats, once: everything it can do. -/

namespace Sys2Proof.Laws

open Sys2Proof Sys2Proof.Machine

/-! ### One step -/

/-- What every command and the passing of time keep, whatever waits in the queue, a step keeps. -/
theorem step_keeps (P : State → Prop) (hqueue : ∀ s l, P s → P { s with pending := l }) (htick : ∀ s, P s → P s.tick)
    (hexec : ∀ i s t, P s → exec i s = .next t → P t) {s t : State} (hs : P s) (h : step s = .next t) : P t := by
  unfold step at h
  split at h
  · unfold idle at h
    split at h
    · exact hexec _ _ _ hs h
    · cases h
      exact htick _ hs
  · exact hexec _ _ _ (hqueue _ _ hs) h

/-! ### Order admission -/

/-- An arriving frame is not received, comes while the receiver waits for RXD high, is discarded, or is taken by its order. -/
theorem takeOrder_cases (s : State) (kind tag : Byte) (payload : List Byte) (body : Order → State → State) :
    (s.link.rxEnabled = false ∧ s.takeOrder kind tag payload body = s)
    ∨ (∃ w, s.link.rxEnabled = true ∧ s.link.rxWait = some w
      ∧ s.takeOrder kind tag payload body = s.passOver w (highHalfBits ((frameCheck kind tag payload).setWidth 8)))
    ∨ (s.link.rxEnabled = true ∧ s.link.rxWait = none ∧ 4 ≤ s.link.window.length
      ∧ s.takeOrder kind tag payload body = s.discard)
    ∨ (s.link.rxEnabled = true ∧ s.link.rxWait = none ∧ s.link.window.length < 4
      ∧ s.takeOrder kind tag payload body = body { kind := kind, tag := tag } (s.enterWindow { kind := kind, tag := tag })) := by
  unfold State.takeOrder
  split
  · split
    · exact .inr (.inl ⟨_, ‹_›, ‹_›, rfl⟩)
    · split
      · exact .inr (.inr (.inl ⟨‹_›, ‹_›, ‹_›, rfl⟩))
      · exact .inr (.inr (.inr ⟨‹_›, ‹_›, by omega, rfl⟩))
  · exact .inl ⟨Bool.eq_false_iff.mpr ‹_›, rfl⟩

/-- Characters that come in a wait for RXD high begin the ten bit times again, or leave the one bit time as it stands. -/
theorem passOver_cases (s : State) (w : RxWait) (high : Nat) :
    (w.quiet = .enabled ∧ s.passOver w high = s.waitQuiet .enabled high)
    ∨ (w.quiet = .characterError ∧ s.passOver w high = s) := by
  unfold State.passOver
  split
  · exact .inl ⟨‹_›, rfl⟩
  · exact .inr ⟨‹_›, rfl⟩

/-! ### Timers -/

/-- A timer has reached its expiry when it runs and the counter stands at its reading, or far past it. -/
theorem due_iff (now : Time) (timer : Option Time) : due now timer = true ↔ ∃ t, timer = some t ∧ reached now t = true := by
  cases timer <;> simp [due]

/-- A timer at most as long as the longest is reached exactly at its reading (R2). -/
theorem reached_iff {now t : Time} (h : (t - now).toNat ≤ 65535000) : reached now t = true ↔ t = now := by
  simp only [reached, Bool.or_eq_true, decide_eq_true_eq]
  exact ⟨fun x => x.resolve_right (by omega), .inl⟩

/-- The passing of time moves the counter and may end the wait for RXD high; nothing else. -/
theorem tick_cases (s : State) :
    (s.power.inReset = true ∧ s.tick = s)
    ∨ (s.power.inReset = false ∧ due (s.time + 1) (s.link.rxWait.map (·.ends)) = false ∧ s.tick = { s with time := s.time + 1 })
    ∨ (s.power.inReset = false ∧ due (s.time + 1) (s.link.rxWait.map (·.ends)) = true
      ∧ s.tick = { s with time := s.time + 1, link := { s.link with rxWait := none } }) := by
  unfold State.tick Link.waited
  split
  · exact .inl ⟨‹_›, rfl⟩
  · have hr : s.power.inReset = false := Bool.eq_false_iff.mpr ‹_›
    split
    · exact .inr (.inr ⟨hr, ‹_›, rfl⟩)
    · exact .inr (.inl ⟨hr, Bool.eq_false_iff.mpr ‹_›, rfl⟩)

/-! ### Grant requests -/

/-- A grant request reaches no line, is turned into GRANT-END by the end-on-withdraw test, or acts on the line's state. -/
theorem takeGrant_cases (s : State) (i : SourceNo) (n : Byte) :
    (s.pairedLine i = none ∧ s.takeGrant i n = s)
    ∨ (∃ g, s.pairedLine i = some g ∧ s.withdrawApplies i g = true ∧ (s.src i).live = false ∧ i ∉ s.flight.withdrawals
      ∧ s.takeGrant i n = s.handGrantEnd i g)
    ∨ (∃ g, s.pairedLine i = some g ∧ (s.withdrawApplies i g = false ∨ (s.src i).live = true ∨ i ∈ s.flight.withdrawals)
      ∧ s.takeGrant i n = s.setLine g ((s.line g).grant n)) := by
  unfold State.takeGrant State.withdrawn
  split
  · rename_i g hg
    split
    · rename_i h
      exact .inr (.inl ⟨g, hg, by simpa using h⟩)
    · rename_i h
      refine .inr (.inr ⟨g, hg, ?_, rfl⟩)
      by_cases ha : s.withdrawApplies i g = true <;> by_cases hl : (s.src i).live = true <;> simp_all
  · exact .inl ⟨‹_›, rfl⟩

/-! ### The transmitter -/

theorem firstFrame_mem {l : List NoticeFrame} {f : NoticeFrame} (h : firstFrame l = some f) : f ∈ l := by
  obtain ⟨c, _, hc⟩ := List.exists_of_findSome?_eq_some h
  exact List.mem_of_find?_eq_some hc

theorem firstFrame_none {l : List NoticeFrame} : firstFrame l = none ↔ l = [] := by
  constructor
  · intro h
    rw [firstFrame, List.findSome?_eq_none_iff] at h
    cases l with
    | nil => rfl
    | cons f rest =>
      have := h f.cls (by simp [allClasses])
      simp at this
  · rintro rfl
    simp [firstFrame]

/-- The transmitter arbiter leaves the state, or takes START, the oldest answer or a frame of the notice send list. -/
theorem transmit_cases (s : State) :
    (s.transmit = s ∧ (s.link.tx.isSome = true ∨ (s.link.answers = [] ∧ s.dispatcher.sendList = [])))
    ∨ (s.link.tx = none ∧ s.link.startPending = true ∧ s.transmit = s.sendStart)
    ∨ (s.link.tx = none ∧ ∃ a rest, s.link.answers = a :: rest ∧ s.transmit = s.sendAnswer a rest)
    ∨ (s.link.tx = none ∧ s.link.answers = [] ∧ ∃ f, firstFrame s.dispatcher.sendList = some f ∧ s.transmit = s.sendNotice f) := by
  unfold State.transmit
  split
  · exact .inl ⟨rfl, .inl ‹_›⟩
  · have hx : s.link.tx = none := Option.not_isSome_iff_eq_none.mp ‹_›
    split
    · exact .inr (.inl ⟨hx, ‹_›, rfl⟩)
    · split
      · exact .inr (.inr (.inl ⟨hx, _, _, ‹_›, rfl⟩))
      · split
        · exact .inr (.inr (.inr ⟨hx, ‹_›, _, ‹_›, rfl⟩))
        · exact .inl ⟨rfl, .inr ⟨‹_›, firstFrame_none.mp ‹_›⟩⟩

/-- Where an answer and a notice frame join together, the arbiter runs as ever, or one free value has been taken first. -/
theorem transmitJoined_cases (s : State) :
    s.transmitJoined = s.transmit ∨ s.transmitJoined = ({ s with choices := s.choices + 1 } : State).transmit
    ∨ (s.link.tx = none ∧ ∃ f, firstFrame s.dispatcher.sendList = some f
      ∧ s.transmitJoined = ({ s with choices := s.choices + 1 } : State).sendNotice f) := by
  unfold State.transmitJoined
  split
  · exact .inl rfl
  · rename_i hj
    split
    · dsimp only
      split
      · refine .inr (.inr ⟨?_, _, ‹_›, rfl⟩)
        simp only [Bool.or_eq_true, not_or] at hj
        simpa using hj.1.1
      · exact .inr (.inl rfl)
    · exact .inl rfl

/-! ### The journal -/

/-- An arrival is dropped, appended, absorbed into the newest record, or made a GAP. -/
theorem arrive_cases (j : Journal) (b : RecordBody) :
    (2147483647 ≤ j.covered ∧ j.arrive b = j)
    ∨ (j.covered < 2147483647 ∧ j.records.length ≤ 126 ∧ j.arrive b = j.append b)
    ∨ (j.covered < 2147483647 ∧ 127 ≤ j.records.length ∧ ∃ pre r, j.records = pre ++ [r] ∧ r.body.kind = .gap
      ∧ j.arrive b = { records := pre ++ [r.absorb], next := j.next + 1 })
    ∨ (j.covered < 2147483647 ∧ 127 ≤ j.records.length ∧ ∃ pre r, j.records = pre ++ [r] ∧ r.body.kind ≠ .gap
      ∧ j.arrive b = j.append (gapFor b)) := by
  unfold Journal.arrive
  split
  · exact .inl ⟨‹_›, rfl⟩
  · have hc : j.covered < 2147483647 := by omega
    split
    · exact .inr (.inl ⟨hc, ‹_›, rfl⟩)
    · have hl : 127 ≤ j.records.length := by omega
      split
      · rename_i r hr
        obtain ⟨pre, hp⟩ := List.getLast?_eq_some_iff.mp hr
        split
        · exact .inr (.inr (.inl ⟨hc, hl, pre, r, hp, ‹_›, by simp [hp]⟩))
        · exact .inr (.inr (.inr ⟨hc, hl, pre, r, hp, ‹_›, rfl⟩))
      · rename_i hn
        rw [List.getLast?_eq_none_iff] at hn
        simp [hn] at hl

/-! ### Runs -/

/-- A run of the dispatch arbiter keeps what a creation for an eligible class keeps. -/
theorem dispatch_keeps (P : State → Prop) (hc : ∀ s c, P s → s.eligible c = true → P (s.createNotice c)) {s : State}
    (hs : P s) : P s.dispatch := by
  unfold State.dispatch
  induction allClasses generalizing s with
  | nil => exact hs
  | cons c rest ih =>
    refine ih (?_ : P (s.dispatchAt c))
    unfold State.dispatchAt
    split
    · exact hc _ _ hs ‹_›
    · exact hs

/-- Taking every request handed keeps what emptying the list and taking one request keep. -/
theorem takeAsks_keeps (P : State → Prop) (hempty : ∀ s : State, P s → P { s with flight := { s.flight with asks := [] } })
    (htake : ∀ s a, P s → P (s.takeAsk a)) {s : State} (hs : P s) : P s.takeAsks := by
  unfold State.takeAsks
  have h0 := hempty s hs
  generalize ({ s with flight := { s.flight with asks := [] } } : State) = t at h0
  induction s.flight.asks generalizing t with
  | nil => exact h0
  | cons a rest ih => exact ih _ (htake _ _ h0)

/-- Ending the grants of every entry keeps what asking, emptying the list and taking one request keep. -/
theorem endGrants_keeps (P : State → Prop) (hask : ∀ (s : State) l, P s → P (s.ask l))
    (hempty : ∀ s : State, P s → P { s with flight := { s.flight with asks := [] } })
    (htake : ∀ s a, P s → P (s.takeAsk a)) {s : State} (hs : P s) : P s.endGrants :=
  takeAsks_keeps P hempty htake (hask _ _ hs)

/-- Taking every record handed keeps what one arrival keeps. -/
theorem arrivals_keep (P : Journal → Prop) (Q : RecordBody → Prop) (h : ∀ j b, P j → Q b → P (j.arrive b)) {j : Journal}
    (l : List RecordBody) (hj : P j) (hl : ∀ b ∈ l, Q b) : P (l.foldl Journal.arrive j) := by
  induction l generalizing j with
  | nil => exact hj
  | cons b rest ih =>
    exact ih (h _ _ hj (hl b (by simp))) fun x hx => hl x (by simp [hx])

/-! ### Class records -/

@[simp] theorem settleFresh_nil (r : ClassRecord) (now : Time) : r.settleFresh now [] = r.enterIdle := rfl

@[simp] theorem settleContinued_nil (r : ClassRecord) : r.settleContinued [] = r.enterIdle := rfl

/-- Every class transition keeps the settings. -/
theorem class_settings (r : ClassRecord) (now : Time) (i : SourceNo) (found : List SourceNo) :
    r.enterIdle.settings = r.settings ∧ (r.enterFresh now found).settings = r.settings
    ∧ (r.enterContinued found).settings = r.settings ∧ (r.settleFresh now found).settings = r.settings
    ∧ (r.settleContinued found).settings = r.settings ∧ (r.reevaluate now found).settings = r.settings
    ∧ (r.reportOn now i).settings = r.settings ∧ (r.reportOff i found).settings = r.settings
    ∧ (r.tornDown now found).settings = r.settings := by
  have hf : (r.settleFresh now found).settings = r.settings := by
    unfold ClassRecord.settleFresh
    split <;> rfl
  have hc : (r.settleContinued found).settings = r.settings := by
    unfold ClassRecord.settleContinued
    split <;> rfl
  refine ⟨rfl, rfl, rfl, hf, hc, ?_, ?_, ?_, ?_⟩
  · unfold ClassRecord.reevaluate
    split
    · exact hf
    · split <;> rfl
    all_goals rfl
  · unfold ClassRecord.reportOn
    split <;> rfl
  · unfold ClassRecord.reportOff
    split
    · rfl
    · split <;> rfl
    all_goals rfl
  · unfold ClassRecord.tornDown
    split <;> first | exact hc | exact hf | rfl

end Sys2Proof.Laws
end

