-- ==== Sys2Proof/Tests/Slice0.lean ====
section
/-! SUPPORT. Tests: ill-formed commands, worked examples of the spec (10.3, 10.7, 11.1 to 11.6) one step at a time, and for every
obligation with hypotheses a state that meets them. Expected values are the spec's or computed by hand from its tables. -/

set_option Elab.async false

namespace Sys2Proof.Tests

open Sys2Proof Sys2Proof.Machine

/-! ### Helpers -/

/-- A field of the next state. -/
def got {α : Type} (f : State → α) (o : Host.Outcome State Fault Refusal) : Option α :=
  match o with
  | .next s => some (f s)
  | .fault _ => none
  | .refused _ => none

/-- The payload of the frame being sent. -/
def sent (s : State) : List Byte :=
  match s.link.tx with
  | some t => t.frame.payload
  | none => []

/-- The part after START has been sent whole and RXD has been high for ten bit times, at reading 0. -/
def base : State := { State.reset with link := { State.reset.link with rxWait := none, tx := none, startPending := false } }

/-- The receiver still waits for RXD high. -/
def listening (s : State) : State := { s with link := { s.link with rxWait := some { quiet := .enabled, ends := s.time + 170 } } }

/-- A character error has just been taken: the receiver waits for one bit time of RXD high, 91.1 µs to the next byte event. -/
def broken (s : State) : State :=
  { s with link := { s.link with rxWait := some { quiet := .characterError, ends := s.time + 92 } } }

/-- The session of the worked sequences: UP, answer timeout 20 ms. -/
def upSession (credit retry : Byte) : Session :=
  { up := true, endCause := .none, credit := credit, answerTimeout := 20, retryLimit := retry, nesting := .free, attn := false }

/-- `base` with a session UP. -/
def up : State := { base with session := upSession 2 1 }

/-- A steering entry without qualification, journal option on. -/
def entry (m : SourceMode) (c : ClassNo) : SteerEntry := { mode := m, cls := some c, qualification := 0, journal := true }

/-- A source whose line rests at `v`, with its count, latch and live flag. -/
def source (v : Level) (count : Byte) (latch live : Bool) : SourceRecord :=
  { resetSource v with latch := latch, count := count, live := live }

/-- A NOTIFIED entry of class `c`, sent once. -/
def notified (n : Byte) (c : ClassNo) (l : List SourceNo) : NoticeEntry :=
  { number := n, cls := c, state := .notified, sent := 1, sendList := l, firstPending := 90000, critical := false,
    claimList := none, claimTime := none, answerTimer := some 110000, serviceTimer := none }

/-- A class record in a state, first pending at 90,000 µs. -/
def classIn (x : ClassState) (l : List SourceNo) : ClassRecord :=
  { resetClass factorySettings with state := x, firstPending := some 90000, reported := l }

/-- 10.7: notice 9 of C5, whose members S20 and S21 are live with counts 1 and 3, at 100,000 µs. -/
def noticed : State :=
  { up with
    time := 100000
    steering := (up.steering.set 20 (entry .levelHigh 5)).set 21 (entry .levelHigh 5)
    sources := (up.sources.set 20 (source .high 1 false true)).set 21 (source .high 3 false true)
    classes := up.classes.set 5 (classIn .notified [20, 21])
    dispatcher := { entries := [notified 9 5 [20, 21]], nextNumber := 10, sendList := [] } }

/-- 11.4: entry #20 of C5 claimed at 3,000,000 with a service limit of 30 ms, S14 in LEVEL-LOW live, G6 granted with a guard of
100 µs. -/
def served : State :=
  { up with
    time := 3000000
    steering := up.steering.set 14 (entry .levelLow 5)
    sources := up.sources.set 14 (source .low 0 false true)
    classes := up.classes.set 5 { classIn .inService [14] with settings := { factorySettings with limit := 30 } }
    lines := up.lines.set 6
      { pairing := { factoryPairing with source := some 14, guardTime := 100 }, state := .granted, waiting := false
        notice := some 20, guardTimer := none }
    dispatcher :=
      { entries := [{ notified 20 5 [14] with
          state := .inService, claimList := some [{ source := 14, count := 1 }], claimTime := some 3000000, answerTimer := none
          serviceTimer := some 3030000 }]
        nextNumber := 21, sendList := [] } }

/-- 11.4: the entry has expired. -/
def expired : State :=
  { served with
    time := 3030000
    classes := served.classes.set 5 { served.klass 5 with state := .expired }
    dispatcher := { served.dispatcher with
      entries := served.dispatcher.entries.map fun e => { e with state := .expired, serviceTimer := none } } }

/-- One grant line record replaced in `served`. -/
def servedLine (r : LineRecord) : State := { served with lines := served.lines.set 6 r }

/-- A steered, unpaired source `i` and nothing else, at 4,000,000 µs. -/
def oneSource (i : SourceNo) (e : SteerEntry) (r : SourceRecord) : State :=
  { base with time := 4000000, steering := base.steering.set i e, sources := base.sources.set i r }

/-- One class record replaced. -/
def oneClass (c : ClassNo) (r : ClassRecord) : State := { base with classes := base.classes.set c r }

/-- A critical class that waits since 90,000 µs. -/
def criticalIn (x : ClassState) : ClassRecord :=
  { classIn x [] with settings := { factorySettings with critical := true } }

/-- A journal of `n` ordinary records from sequence `first` (11.5). -/
def journalOf (first n : Nat) : Journal :=
  { records := (List.range n).map fun k => { seq := BitVec.ofNat 32 (first + k), body := { time := 0, kind := .assert } }
    next := BitVec.ofNat 32 (first + n) }

/-- A frame in transmission; its bytes do not matter. -/
def sending (o : Origin) (ends : Time) : Option Sending :=
  some { frame := { kind := 0x60, tag := 0, payload := [] }, origin := o, ends := ends }

/-- A part whose transmitter sends a frame. -/
def whileSending (s : State) (o : Origin) (ends : Time) : State := { s with link := { s.link with tx := sending o ends } }

/-- A part held in reset by its RESET pin. -/
def held : State :=
  { State.reset.beginReset .pin with power :=
      { inReset := true, supplyOut := false, pinLow := true, supplyLost := false, lastCause := .pin } }

/-- 11.6: a save of slot 0 is under way, slot 2 is VALID with generation 5, the journal's next sequence is 2,400. -/
def saving : State :=
  { base with
    time := 10000000
    journal := journalOf 2360 40
    link := { base.link with window := [{ kind := 0x13, tag := 1 }] }
    store := { base.store with
      slots := (base.store.slots.set 0 .invalid).set 2 (.valid 5 factoryProfile)
      generation := 5
      boot := some 0
      operation := .save 0 factoryProfile { kind := 0x13, tag := 1 } 10030000 } }

/-! ### Ill-formed commands (10 R163, R164) -/

theorem test_payload_over_60_refused : (Instr.echo 0 (List.replicate 61 0)).wf = false := by decide +kernel
theorem test_payload_of_60_well_formed : (Instr.echo 0 (List.replicate 60 0)).wf = true := by decide +kernel
theorem test_mask_set_with_clear_action_refused : (Instr.maskSet 0 [0, 1, 2]).wf = false := by decide
theorem test_mask_clear_with_set_action_refused : (Instr.maskClear 0 [0, 1, 1]).wf = false := by decide
theorem test_force_pulse_with_on_action_refused : (Instr.forcePulse 0 [4, 2]).wf = false := by decide
theorem test_force_on_with_off_action_refused : (Instr.forceOn 0 [4, 3]).wf = false := by decide
theorem test_force_off_with_pulse_action_refused : (Instr.forceOff 0 [4, 1]).wf = false := by decide
theorem test_unknown_kind_of_an_order_refused : (Instr.unknownKind 0x17 0 []).wf = false := by decide
theorem test_unknown_kind_well_formed : (Instr.unknownKind 0x18 0 []).wf = true := by decide
theorem test_unknown_kind_0_well_formed : (Instr.unknownKind 0x00 0 []).wf = true := by decide

/-! ### Bytes (10 R163 to R165) -/

/-- R165's reference value. -/
theorem test_crc_reference : crc16 [0x31, 0x32, 0x33, 0x34, 0x35, 0x36, 0x37, 0x38, 0x39] = 0x29B1 := by decide +kernel
/-- 10.7's CLAIM on the wire; the CHECK 0x6180 is computed by hand over 01 05 2A 09. -/
theorem test_claim_on_the_wire :
    (Frame.wire { kind := 0x05, tag := 0x2A, payload := [9] }) = [0xC3, 0x01, 0x05, 0x2A, 0x09, 0x61, 0x80] := by decide +kernel
/-- The set of 10.7. -/
theorem test_source_set : be32 (sourceSet fun i => i == 20 || i == 21) = [0x00, 0x30, 0x00, 0x00] := by decide +kernel
theorem test_no_table_word : decodeTableWord 8 0 = none := by decide
/-- R128's table: 330 µs for the longest frame at 2,000,000 bit/s, 30 µs for the shortest. -/
theorem test_frame_length : frameMicros .b2000000 60 = 330 ∧ frameMicros .b2000000 0 = 30 := by decide

/-! ### Link orders and events (07) -/

theorem test_status : got sent (exec (.status 1 []) base) = some
    [0, 0, 1, 0x10, 0, 0, 0, 0, 0, 0, 0, 0, 0, 0, 2, 0, 0, 0, 1, 0, 0, 0, 3, 0, 0, 0, 0xFF, 0xFF] := by decide +kernel
theorem test_echo : got sent (exec (.echo 1 [0xAA]) noticed) = some [0, 0, 0xAA, 0, 1, 0x86, 0xA0] := by decide +kernel
theorem test_unknown_kind : got (fun s => s.link.tx.map (·.frame)) (exec (.unknownKind 0x80 7 [1]) base)
    = some (some { kind := 0x80, tag := 7, payload := [5, 0, 0x80] }) := by decide +kernel
theorem test_frame_failure : got (fun s => (s.link.rx, s.link.frameErrors))
    (exec (.frameFailure .lenOver60) { base with link := { base.link with rx := .len, frameErrors := 65535 } })
    = some (.hunt, 65535) := by decide +kernel
/-- R116, R118: a character error while the receiver waits is not counted, and the wait begins again: 19.5 bit times of 8.68 µs. -/
theorem test_character_error_in_the_wait : got (fun s => (s.link.rxWait, s.link.frameErrors))
    (exec (.frameFailure .characterError) { listening base with time := 100 })
      = some (some { quiet := .enabled, ends := 270 }, 0) := by decide +kernel
/-- R116: the wait ends at its reading. -/
theorem test_wait_ends : got (fun s => (s.time, s.link.rxWait)) (step { listening base with time := 168 })
      = some (169, some { quiet := .enabled, ends := 170 })
    ∧ got (fun s => (s.time, s.link.rxWait)) (step { listening base with time := 169 }) = some (170, none) := by decide +kernel
/-- R116, R118: a character error within a frame is counted, and 10.5 bit times of 8.68 µs pass before a byte event can be taken. -/
theorem test_character_error_waits_one_bit_time : got (fun s => (s.link.rxWait, s.link.frameErrors))
    (exec (.frameFailure .characterError) { base with time := 100, link := { base.link with rx := .len, rxTimer := some 5000 } })
      = some (some { quiet := .characterError, ends := 192 }, 1) := by decide +kernel
/-- R116: a byte whose start bit came too soon after the error is not taken, and the wait ends at its reading. -/
theorem test_byte_after_a_character_error : got (fun s => s.link.rx) (exec (.byteReceived 0xC3) (broken base)) = some .hunt
    ∧ got (fun s => s.link.rxWait) (step { broken base with time := 91 }) = some none := by decide +kernel
theorem test_gap_expiry : got (fun s => (s.link.rx, s.link.frameErrors))
    (exec .interByteGapExpiry { base with time := 5000, link := { base.link with rx := .kind 3, rxTimer := some 5000 } })
    = some (.hunt, 1) := by decide +kernel
/-- R118: the second of two SYNC bytes is taken as a LEN of 195. -/
theorem test_second_sync_fails : got (fun s => (s.link.rx, s.link.frameErrors))
    (exec (.byteReceived 0xC3) { base with link := { base.link with rx := .len } }) = some (.hunt, 1) := by decide +kernel
/-- The last byte of 10.7's frame is its arrival. -/
theorem test_last_check_byte_takes_the_claim : got (fun s => (s.link.rx, sent s))
    (exec (.byteReceived 0x80) { noticed with link := { noticed.link with rx := .check 0x05 0x2A [9] (some 0x61) } })
    = some (.hunt, [0, 0, 9, 5, 0, 1, 0x86, 0xA0, 0, 0x30, 0, 0, 1, 3]) := by decide +kernel
/-- 11.3, 2,000,200: the completion of #7 raises its sent count and starts its answer timer. -/
theorem test_notice_completion : got (fun s => s.dispatcher.entries.map fun e => (e.sent, e.answerTimer))
    (exec .transmissionCompletion (whileSending { noticed with
      time := 2000200
      dispatcher := { noticed.dispatcher with
        entries := [{ notified 7 3 [12] with sent := 0, answerTimer := none }] } } (.notice (some 7)) 2000200))
    = some [(1, some 2020200)] := by decide +kernel
/-- 11.3, 2,020,400: after the claim no timer starts. -/
theorem test_notice_completion_after_claim : got (fun s => s.dispatcher.entries.map fun e => (e.sent, e.answerTimer))
    (exec .transmissionCompletion (whileSending served (.notice (some 20)) 3000000))
    = some [(2, none)] := by decide +kernel

/-! ### Source lines (01) -/

/-- R4: 5 steps of 20 µs. -/
theorem test_raw_change_starts_the_timer :
    got (fun s => (s.src 4).timer) (exec (.rawLevelChange (.source 4) .high)
      (oneSource 4 { entry .rise 2 with qualification := 5 } (resetSource .low)))
    = some (some { target := .high, expiry := 4000100 }) := by decide +kernel
/-- R115: a strap that changes while the part runs leaves the rate in use. -/
theorem test_strap_change : got (fun s => (s.link.rateA, s.link.rate)) (exec (.rawLevelChange .rateA .high) base)
    = some (true, .b115200) := by decide +kernel
/-- 11.2, 4,000,000: the qualified rise of S4. -/
theorem test_qualified_rise : got (fun s => ((s.src 4).latch, (s.src 4).count, s.flight.reports))
    (exec (.qualificationTimerExpiry 4) (oneSource 4 (entry .rise 2)
      { resetSource .low with raw := .high, timer := some { target := .high, expiry := 4000000 } }))
    = some (true, 1, [{ source := 4, cls := 2, contributes := true }]) := by decide +kernel
/-- 11.2, 4,001,000: the second rise makes no report. -/
theorem test_second_rise_is_counted_alone : got (fun s => ((s.src 4).count, s.flight.reports))
    (exec (.rawLevelChange (.source 4) .high) (oneSource 4 (entry .rise 2) (source .low 1 true false))) = some (2, []) := by
  decide +kernel
theorem test_force_pulse : got (fun s => (sent s, s.flight.arrivals.map (·.kind)))
    (exec (.forcePulse 1 [4, 1]) (oneSource 4 (entry .rise 2) (resetSource .low)))
    = some ([0, 0, 4, 1, 4, 1], [.assertForced]) := by decide +kernel
theorem test_force_on : got sent (exec (.forceOn 1 [4, 2]) (oneSource 4 (entry .levelHigh 2) (resetSource .low)))
    = some [0, 0, 4, 4, 6, 1] := by decide +kernel
theorem test_force_off_of_an_edge_source : got sent (exec (.forceOff 1 [4, 3]) (oneSource 4 (entry .both 2) (resetSource .high)))
    = some [3, 0, 4, 3, 1, 0] := by decide +kernel
theorem test_get_lines : got (fun s => (sent s).take 10) (exec (.getLines 1 []) noticed)
    = some [0, 0, 0, 0x30, 0, 0, 0, 0x30, 0, 0] := by decide +kernel

/-! ### Steering (02) -/

/-- R21: S3 cannot join the class of the edge source S1. -/
theorem test_set_steer_conflict : got sent (exec (.setSteer 1 [3, 4, 2, 0, 0]) (oneSource 1 (entry .rise 2) (resetSource .low)))
    = some [2, 0, 3, 0, 0xFF, 0, 0, 2, 1] := by decide +kernel
/-- R23, R35: a level source at its active level is live at once, with count 0, and puts its class in PENDING. -/
theorem test_set_steer : got (fun s => ((s.src 3).live, (s.src 3).count, (s.klass 2).state, s.session.attn))
    (exec (.setSteer 1 [3, 5, 2, 0, 0]) base) = some (true, 0, .pending, true) := by decide +kernel
theorem test_get_steer : got sent (exec (.getSteer 1 [14]) served) = some [0, 0, 14, 5, 5, 0, 1, 6] := by decide +kernel

/-! ### Classes (03) -/

/-- 11.1, 1,000,000: the report moves C6 through PENDING to NOTIFIED in one event. -/
theorem test_report_is_noticed_at_once :
    got (fun s => ((s.klass 6).state, s.dispatcher.entries.map (·.number), sent s)) (exec (.contributionReport 10)
      { up with
        time := 1000000
        steering := up.steering.set 10 (entry .levelHigh 6)
        sources := up.sources.set 10 (source .high 1 false true)
        flight := { noMessages with reports := [{ source := 10, cls := 6, contributes := true }] } })
    = some (.notified, [1], [1, 6, 0, 0, 0x0F, 0x42, 0x40, 0, 0, 4, 0]) := by decide +kernel
/-- R36: the report that the last member no longer contributes. -/
theorem test_report_off_ends_the_request : got (fun s => (s.klass 2).state) (exec (.contributionReport 4)
    { oneClass 2 (classIn .pending [4]) with flight := { noMessages with reports := [{ source := 4, cls := 2, contributes := false }] } })
    = some .idle := by decide +kernel
theorem test_deadline_expiry : got (fun s => (s.time, (s.klass 1).late, s.alarm))
    (exec (.deadlineExpiry 1) { oneClass 1 { criticalIn .pending with deadlineTimer := some 1090000 } with time := 1090000 })
    = some (1090000, true, true) := by decide +kernel
/-- R2: a timer that has not run its length does not expire. -/
theorem test_deadline_not_run_out : got (fun s => (s.time, (s.klass 1).late))
    (exec (.deadlineExpiry 1) { oneClass 1 { criticalIn .pending with deadlineTimer := some 1090000 } with time := 1089999 })
    = some (1089999, false) := by decide +kernel
theorem test_hold_expiry_keeps_first_pending : got (fun s => ((s.klass 2).state, (s.klass 2).firstPending))
    (exec (.holdExpiry 2) { oneSource 4 (entry .levelHigh 2) (source .high 1 false true) with
      classes := base.classes.set 2 { classIn .held [] with holdTimer := some 4000000 } })
    = some (.pending, some 90000) := by decide +kernel
theorem test_set_class_deadline_0 : got sent (exec (.setClass 1 [16, 0, 0, 0, 0, 0, 0]) base)
    = some [3, 0, 16, 0, 0, 3, 0xE8, 0, 0] := by decide +kernel
/-- R54: made critical in HELD, the deadline starts. -/
theorem test_set_class_critical : got (fun s => (s.klass 2).deadlineTimer)
    (exec (.setClass 1 [2, 0, 1, 0, 5, 0, 0]) (oneClass 2 { classIn .held [] with holdTimer := some 9000 }))
    = some (some 5000) := by decide +kernel
theorem test_get_class : got sent (exec (.getClass 1 [5]) noticed)
    = some [0, 0, 5, 0, 0, 3, 0xE8, 0, 0, 2, 0, 1, 0, 1, 0x5F, 0x90, 0, 0, 0, 0, 9, 0, 0x30, 0, 0, 0, 0x30, 0, 0] := by
  decide +kernel
theorem test_mask_set : got sent (exec (.maskSet 1 [0x80, 0x01, 1]) base) = some [0, 0, 0x80, 0x01] := by decide +kernel
theorem test_mask_clear : got (fun s => (sent s, s.session.attn)) (exec (.maskClear 1 [0, 4, 2])
    (oneClass 2 { classIn .pending [4] with settings := { factorySettings with masked := true } }))
    = some ([0, 0, 0, 0], true) := by decide +kernel
theorem test_clear_alarm_refused : got sent (exec (.clearAlarm 1 []) { oneClass 1 { criticalIn .pending with late := true } with
    alarm := true }) = some [0x0B, 0, 1, 0, 2] := by decide +kernel

/-! ### Notices (04) -/

/-- 10.7; the CLAIM record carries the sum 1 + 3. -/
theorem test_claim : got (fun s => (s.link.tx.map (·.frame), (s.src 21).count, (s.src 21).live, s.flight.arrivals))
    (exec (.claim 0x2A [9]) noticed)
    = some (some { kind := 0x85, tag := 0x2A, payload := [0, 0, 9, 5, 0, 1, 0x86, 0xA0, 0, 0x30, 0, 0, 1, 3] }, 0, true,
      [{ time := 100000, kind := .claim, cls := some 5, notice := some 9, count := some 4 }]) := by decide +kernel
/-- R116: not taken in the wait. The frame ends with 0x80, one bit at 1 and half a stop bit high, so 18 bit times of 8.68 µs are
left. -/
theorem test_claim_in_the_wait : got (fun s => (sent s, s.link.window, s.link.rxWait)) (exec (.claim 0x2A [9]) (listening noticed))
    = some ([], [], some { quiet := .enabled, ends := 100157 }) := by decide +kernel
/-- 11.4: released in time, C5 is noticed again as #21 with a fresh first-pending time. -/
theorem test_release : got (fun s => (s.dispatcher.entries.map fun e => (e.number, e.firstPending), s.flight.asks))
    (exec (.release 1 [20]) (whileSending { served with time := 3010000 } .overdue 3010300))
    = some ([(21, 3010000)], [.finish 20]) := by decide +kernel
/-- 11.4: the late release. -/
theorem test_release_late : got (fun s => (s.flight.arrivals.map (·.kind), s.flight.asks))
    (exec (.release 1 [20]) (whileSending expired .overdue 3030300))
    = some ([.releaseLate, .notice], []) := by decide +kernel
theorem test_return_with_hold : got (fun s => ((s.klass 5).state, (s.klass 5).holdTimer, (s.klass 5).firstPending))
    (exec (.returnNotice 1 [9, 0, 5]) noticed) = some (.held, some 105000, some 90000) := by decide +kernel
theorem test_return_number_0 : got sent (exec (.returnNotice 1 [0, 0, 5]) noticed) = some [7, 0, 0] := by decide +kernel
/-- 11.3, 2,020,200: 1 ≤ 1, the repeat is queued and taken, with bit 0 of its flags. -/
theorem test_answer_timer_repeat : got (fun s => (s.time, sent s)) (exec (.answerTimerExpiry 9) { noticed with time := 110000 })
    = some (110000, [9, 5, 1, 0, 1, 0x5F, 0x90, 0, 0x30, 0, 0]) := by decide +kernel
/-- 11.3, 2,040,800: 2 > 1, the loss is reported. -/
theorem test_answer_timer_loss : got (fun s => s.flight.loss) (exec (.answerTimerExpiry 9) { noticed with
    time := 110000
    dispatcher := { noticed.dispatcher with entries := [{ notified 9 5 [20, 21] with sent := 2 }] } })
    = some (some { cls := 5, notice := 9 }) := by decide +kernel
/-- 11.4, 3,030,000: OVERDUE is taken for transmission at once. -/
theorem test_service_timer_expiry : got (fun s => ((s.klass 5).state, s.flight.asks, s.link.tx.map (·.frame)))
    (exec (.serviceTimerExpiry 20) { served with time := 3030000 })
    = some (.expired, [.finish 20], some { kind := 0x61, tag := 0, payload := [20, 5, 0, 0x2D, 0xC6, 0xC0] }) := by
  decide +kernel

/-! ### Grant lines (05) -/

/-- 11.4, 3,000,000. -/
theorem test_grant_request : got (fun s => ((s.line 6).state, (s.line 6).notice, s.lineOutput 6)) (exec .grantRequest
    { served with
      lines := served.lines.set 6 (freshLine { factoryPairing with source := some 14, guardTime := 100 })
      flight := { noMessages with asks := [.grant 14 20] } })
    = some (.granted, some 20, .high) := by decide +kernel
/-- `served` before its grant, with the option on; S14 has withdrawn, and the withdrawal is told and not yet taken. -/
def racing (x : LineState) : State :=
  { served with
    sources := served.sources.set 14 (source .high 0 false false)
    lines := served.lines.set 6
      { pairing := { factoryPairing with source := some 14, guardTime := 100, endOnWithdraw := true }, state := x, waiting := false
        notice := none, guardTimer := if x = .guarding then some 3000010 else none }
    flight := { noMessages with asks := [.grant 14 20], withdrawals := [14] } }

/-- R95: the request taken first is granted, or waits in the guard; after the withdrawal it is GRANT-END. -/
theorem test_grant_request_meets_a_withdrawal :
    got (fun s => ((s.line 6).state, s.flight.arrivals)) (exec .grantRequest (racing .ready)) = some (.granted, [])
    ∧ got (fun s => ((s.line 6).state, (s.line 6).waiting)) (exec .grantRequest (racing .guarding)) = some (.guarding, true)
    ∧ got (fun s => ((s.line 6).state, s.flight.arrivals.map (·.kind)))
        (exec .grantRequest { racing .ready with flight := { noMessages with asks := [.grant 14 20] } })
      = some (.ready, [.grantEnd]) := by decide +kernel
/-- 11.4, 3,030,000: guard to 3,030,100. -/
theorem test_grant_end_request : got (fun s => ((s.line 6).state, (s.line 6).guardTimer)) (exec .grantEndRequest
    { served with time := 3030000, flight := { noMessages with asks := [.finish 20] } })
    = some (.guarding, some 3030100) := by decide +kernel
theorem test_end_on_withdraw : got (fun s => ((s.line 6).state, s.flight.arrivals)) (exec (.endOnWithdraw 14) { served with
    lines := served.lines.set 6 { served.line 6 with pairing := { (served.line 6).pairing with endOnWithdraw := true, guardTime := 0 } }
    flight := { noMessages with withdrawals := [14] } })
    = some (.ready, [{ time := 3000000, kind := .grantEnd, source := some 14, count := some 6 }]) := by decide +kernel
/-- R94: with the option off a withdrawal does not reach the line. -/
theorem test_end_on_withdraw_off : got (fun s => (s.line 6).state) (exec (.endOnWithdraw 14) { served with
    flight := { noMessages with withdrawals := [14] } }) = some .granted := by decide +kernel
theorem test_guard_expiry_of_a_waiting_line : got (fun s => ((s.line 6).state, (s.line 6).notice)) (exec (.guardExpiry 6)
    { servedLine { served.line 6 with state := .guarding, waiting := true, notice := some 21, guardTimer := some 3000100 } with
      time := 3000100 })
    = some (.granted, some 21) := by decide +kernel
theorem test_pair_grant : got (fun s => (sent s, s.lineOutput 1)) (exec (.pairGrant 1 [1, 4, 1, 7, 0]) base)
    = some ([0, 0, 1, 4, 1, 7, 0, 1, 0, 0], .high) := by decide +kernel
theorem test_pair_grant_conflict : got sent (exec (.pairGrant 1 [1, 14, 0, 0, 0]) served)
    = some [2, 0, 1, 0xFF, 0, 0, 0, 0, 0, 0, 6] := by decide +kernel

/-! ### The journal (06) -/

/-- 11.5, step 3: a GAP takes the 128th place. -/
theorem test_arrival_becomes_a_gap : got (fun s => (s.journal.records.length, s.journal.records.getLast?, s.journal.next))
    (exec .journalArrival { base with
      journal := journalOf 1001 127, flight := { noMessages with arrivals := [{ time := 7000000, kind := .claim }] } })
    = some (128, some { seq := 1128, body := { time := 7000000, kind := .gap, count := some 1 } }, 1129) := by decide +kernel
/-- 11.5, step 10: a limit equal to the next sequence. -/
theorem test_trim_past_the_end : got sent (exec (.trimJournal 1 [0, 0, 0, 3]) base)
    = some [3, 0, 0, 0, 0, 1, 0, 0, 0, 3, 2] := by decide +kernel
/-- R109: a limit of next minus 1 empties the journal. -/
theorem test_trim_all : got sent (exec (.trimJournal 1 [0, 0, 0, 2]) base) = some [0, 0, 0, 0, 0, 3, 0, 0, 0, 3, 0] := by
  decide +kernel
/-- RESET and BOOT of R112, read from a position older than the oldest record. -/
theorem test_read_journal : got sent (exec (.readJournal 1 [0, 0, 0, 0]) base) = some
    ([0, 0, 0x82, 0, 0, 0, 1, 0, 0, 0, 3] ++ [0, 0, 0, 1, 0, 0, 0, 0, 0x50, 0xFF, 0xFF, 0, 0, 0, 0, 1]
      ++ [0, 0, 0, 2, 0, 0, 0, 0, 0x51, 0xFF, 0xFF, 0, 0, 0, 0, 0x10]) := by decide +kernel

/-! ### Sessions (08) -/

theorem test_open : got (fun s => (sent s, s.flight.arrivals)) (exec (.openSession 1 [2, 20, 1, 0]) base)
    = some ([0, 0, 1, 0, 2, 20, 1, 0], [{ time := 0, kind := .sessionOpen, count := some 2 }]) := by decide +kernel
theorem test_open_credit_9 : got sent (exec (.openSession 1 [9, 20, 1, 0]) base) = some [3, 0, 0, 0, 0, 0, 0, 0] := by
  decide +kernel
/-- R140: C5, NOTIFIED, goes to PENDING by a continued entry, and ATTN calls the host. -/
theorem test_close : got (fun s => (sent s, (s.klass 5).state, (s.klass 5).firstPending, s.session.attn))
    (exec (.closeSession 1 []) noticed) = some ([0, 0, 0, 1, 1], .pending, some 90000, true) := by decide +kernel
/-- R140: the grant of an entry in service ends within teardown, through its guard. -/
theorem test_close_ends_the_grant : got (fun s => ((s.line 6).state, (s.line 6).guardTimer, s.lineOutput 6, s.flight.asks))
    (exec (.closeSession 1 []) served) = some (.guarding, some 3000100, .low, []) := by decide +kernel
/-- 11.3: SESSION-LOST C5 #9. -/
theorem test_session_lost : got (fun s => (s.session.up, s.session.endCause, s.flight.arrivals)) (exec .sessionLost { noticed with
    flight := { noMessages with loss := some { cls := 5, notice := 9 } } })
    = some (false, .lost, [{ time := 100000, kind := .sessionLost, cls := some 5, notice := some 9, count := some 1 }]) := by
  decide +kernel

/-! ### Profiles, resets, start-up (09) -/

/-- 11.6, 10,000,000: the slot is INVALID while the save runs. -/
theorem test_save_profile : got (fun s => (s.store.slot 2, s.store.generation, s.link.answers)) (exec (.saveProfile 1 [2])
    { saving with store := { saving.store with operation := .none } }) = some (.invalid, 5, []) := by decide +kernel
/-- 11.6: the save takes generation 6. -/
theorem test_save_completes : got (fun s => ((s.store.slot 0).generation, sent s)) (exec .profileSaveCompletion
    { saving with time := 10030000 })
    = some (6, [0, 0, 0, 0, 0, 0, 6]) := by decide +kernel
/-- 11.6, 10,005,000: BUSY. -/
theorem test_load_profile_busy : got sent (exec (.loadProfile 2 [2]) saving) = some [1, 0, 1, 0] := by decide +kernel
theorem test_load_profile : got sent (exec (.loadProfile 2 [2]) { saving with
    link := base.link, store := { saving.store with operation := .none } }) = some [0, 0, 2, 0, 0, 0, 5] := by decide +kernel
theorem test_set_boot_range : got sent (exec (.setBoot 2 [4]) base) = some [3, 0, 4] := by decide +kernel
theorem test_set_boot_reads_none_meanwhile : got (fun s => s.store.boot) (exec (.setBoot 2 [1])
    { base with store := { base.store with boot := some 1 } }) = some none := by decide +kernel
theorem test_set_boot_completes : got (fun s => (s.store.boot, sent s)) (exec .setBootCompletion { base with
    time := 6000
    store := { base.store with operation := .setBoot (some 2) { kind := 0x15, tag := 1 } 6000 } }) = some (some 2, [0, 0, 2]) := by
  decide +kernel
theorem test_get_profiles : got sent (exec (.getProfiles 2 []) saving) = some
    [0, 0, 2, 0, 1, 0, 0, 0, 0, 0, 0, 0, 0, 0, 0, 0, 0, 5, 0, 0, 0, 0, 0, 0, 0, 5, 0, 1, 0] := by decide +kernel
theorem test_restart : got (fun s => s.link.tx.map (·.origin)) (exec (.restart 9 []) base)
    = some (some (.answer { kind := 0x17, tag := 9 } true)) := by decide +kernel
/-- 11.6, 10,012,000: the pin reset overtakes the save and keeps the journal. -/
theorem test_pin_reset : got (fun s => (s.store.slot 0, s.store.boot, s.journal.next, s.link.window)) (exec .pinReset saving)
    = some (.invalid, some 0, 2400, []) := by decide +kernel
theorem test_power_on_empties_the_journal : got (fun s => (s.journal.records, s.journal.next, s.time)) (exec .powerOn saving)
    = some ([], 1, 0) := by decide +kernel
theorem test_supply_in_range : got (fun s => s.power.storeRead) (exec .supplyInRange
    { held with power := { held.power with pinLow := false, supplyOut := true } }) = some true := by decide +kernel
theorem test_reset_release : got (fun s => s.power.storeRead) (exec .resetRelease held) = some true := by decide +kernel
/-- 11.6: START carries cause PIN, boot outcome 0x12 and next sequence 2,402; straps 1, 0 are 921,600 bit/s (R115). -/
theorem test_start_up : got (fun s => (sent s, s.journal.records.length, s.link.rxEnabled, s.link.rate)) (exec .startUp
    { held with
      link := { held.link with rateB := true }
      journal := journalOf 2360 40
      power := { held.power with pinLow := false }
      store := { saving.store with operation := .none } })
    = some ([2, 0x12, 0, 0, 0x09, 0x62], 42, true, .b921600) := by decide +kernel
/-- The state after reset is what start-up makes of the part as delivered, in a POWER-ON reset (R112, R131, R160; log 1). -/
theorem test_start_up_gives_the_reset_state : got id (exec .startUp { State.reset.beginReset .powerOn with
    power := { inReset := true, supplyOut := false, pinLow := false, supplyLost := true, lastCause := .powerOn } })
    = some State.reset := by decide +kernel

end Sys2Proof.Tests
end

