-- ==== Sys2Proof/Tests/Witnesses.lean ====
section
/-! SUPPORT. For every obligation with hypotheses, concrete states and operands that meet them, clause by clause: where a range ends,
at its end. -/

set_option Elab.async false

namespace Sys2Proof.Tests

open Sys2Proof Sys2Proof.Machine

/-! ### A part with something under way in every block -/

/-- C5 in service under #20 with G6 granted and its service timer running; C2 NOTIFIED as #21 with its answer timer running; C1
critical, late and HELD; a qualification timer, a guard with a waiting flag, a save and a frame half received; an answer queued, one
being sent, one held back; messages in flight; START_UP waiting in the queue. -/
def busy : State :=
  { served with
    steering := ((served.steering.set 3 (entry .levelLow 1)).set 4 (entry .rise 2)).set 14 (entry .levelLow 5)
    sources := ((served.sources.set 3 (source .low 1 false true)).set 4
      { source .low 2 true false with raw := .high, timer := some { target := .high, expiry := 3000060 } }).set 14
        (source .low 0 false true)
    classes := ((served.classes.set 1 { criticalIn .held with late := true, holdTimer := some 3005000 }).set 2 (classIn .notified [4])).set 6
      (classIn .pending [9])
    alarm := true
    dispatcher :=
      { entries := served.dispatcher.entries ++ [{ notified 21 2 [4] with answerTimer := some 3010000 }]
        nextNumber := 22, sendList := [] }
    lines := served.lines.set 1
      { pairing := { factoryPairing with source := some 4, guardTime := 10 }, state := .guarding, waiting := true
        notice := some 20, guardTimer := some 3000005 }
    link := { served.link with
      rx := .tag 3 5
      rxTimer := some 3004000
      window := [{ kind := 5, tag := 1 }, { kind := 0x13, tag := 2 }, { kind := 1, tag := 3 }]
      answers := [{ order := { kind := 1, tag := 3 }, result := .ok, fields := [] }]
      tx := sending (.answer { kind := 5, tag := 1 } false) 3000100 }
    store := { saving.store with operation := .save 0 factoryProfile { kind := 0x13, tag := 2 } 3030000 }
    flight :=
      { reports := [{ source := 14, cls := 5, contributes := true }], asks := [.finish 20], withdrawals := [14]
        arrivals := [{ time := 3000000, kind := .assert, source := some 4 }], loss := none }
    pending := [.startUp] }

/-- A source record meets its law when its Booleans do. -/
theorem sourceLaw_of (m : SourceMode) (r : SourceRecord)
    (h : (match r.timer with
        | some t => decide (t.target ≠ r.qualified ∧ r.raw = t.target)
        | none => decide (r.raw = r.qualified)) = true
      ∧ r.live = liveValue m r.qualified r.forced
      ∧ (m.isEdge = true → (r.count = 0 ↔ r.latch = false) ∧ r.forced = false)
      ∧ (m.isLevel = true → r.latch = false)
      ∧ (m = .off → r.latch = false ∧ r.count = 0 ∧ r.forced = false)) : SourceLaw m r := by
  obtain ⟨h1, h2⟩ := h
  refine ⟨?_, h2⟩
  cases ht : r.timer with
  | none => simpa [ht] using h1
  | some t => simpa [ht] using h1

theorem witness_records_law : RecordsLaw busy := by
  refine ⟨⟨?_, ?_, ?_, ?_, ?_⟩, ?_⟩
  · decide +kernel
  · show unbroken 1 [_, _] 3
    simp [unbroken, JournalRecord.coverage]
  · decide +kernel
  · decide +kernel
  · intro r h
    exact absurd h (by decide +kernel)
  · decide +kernel

theorem witness_tables_law : TablesLaw busy := by
  have hf : LawfulProfile factoryProfile := by
    unfold LawfulProfile SharingRule PairingLaw
    decide +kernel
  refine ⟨?_, ?_, ?_, hf⟩
  · unfold SharingRule
    decide +kernel
  · unfold PairingLaw
    decide +kernel
  · intro n
    fin_cases n
    · trivial
    · trivial
    · exact hf
    · trivial

theorem witness_sources_law : SourcesLaw busy := by
  intro _ i
  apply sourceLaw_of
  revert i
  decide +kernel

theorem witness_notice_law : NoticeLaw busy ∧ ResetLaw busy := by
  constructor
  · unfold NoticeLaw
    decide +kernel
  · intro h
    exact absurd h (by decide +kernel)

theorem witness_classes_law : ClassesLaw busy := by
  unfold ClassesLaw ClassLaw
  decide +kernel

theorem witness_lines_law : LinesLaw busy := by
  unfold LinesLaw LineLaw
  decide +kernel

theorem witness_grants_law : GrantsLaw busy ∧ GrantsLaw served := by
  refine ⟨⟨?_, ?_, ?_⟩, ?_, ?_, ?_⟩
  · intro g n h
    have hn : ∀ k : LineNo, (busy.line k).notice = none ∨ (busy.line k).notice = some 20 := by decide +kernel
    obtain h0 | h0 := hn g
    · simp [h0] at h
    · rw [h0] at h
      cases h
      exact .inl (by decide +kernel)
  · intro pre i n post h
    have hm : GrantAsk.grant i n ∈ busy.flight.asks := by rw [h]; simp
    exact absurd hm (by rw [show busy.flight.asks = [.finish 20] by decide +kernel]; simp)
  · intro h
    exact absurd h (by decide +kernel)
  · intro g n h
    have hn : ∀ k : LineNo, (served.line k).notice = none ∨ k = 6 := by decide +kernel
    obtain h0 | rfl := hn g
    · simp [h0] at h
    · rw [show (served.line 6).notice = some 20 by decide +kernel] at h
      cases h
      refine .inr ⟨14, by decide +kernel, _, List.mem_singleton.mpr rfl, ?_, ?_, ?_, _, rfl, _, List.mem_singleton.mpr rfl, rfl⟩ <;>
        decide +kernel
  · intro pre i n post h
    have hm : GrantAsk.grant i n ∈ served.flight.asks := by rw [h]; simp
    exact absurd hm (by rw [show served.flight.asks = [] by decide +kernel]; simp)
  · intro h
    exact absurd h (by decide +kernel)

theorem witness_timers_law : TimersLaw busy ∧ FramesFit busy := by
  refine ⟨fun t ht => ?_, ?_, ?_⟩
  · have h : (busy.runningTimers.all fun t => decide ((t - busy.time).toNat ≤ 65535000)) = true := by decide +kernel
    exact of_decide_eq_true (List.all_eq_true.mp h t ht)
  · decide +kernel
  · decide +kernel

/-- `expired` with its OVERDUE frame waiting behind its first NOTICE frame, which is still being sent. -/
def overdue : State :=
  whileSending { expired with dispatcher := { expired.dispatcher with sendList := [{ notice := 20, cls := 5, kind := .overdue, payload := [] }] } }
    (.notice (some 20)) 3030300

theorem witness_send_list_law : SendListLaw busy ∧ SendListLaw overdue := by
  refine ⟨⟨?_, ?_, ?_, ?_, ?_, ?_, ?_⟩, ?_, ?_, ?_, ?_, ?_, ?_, ?_⟩
  · decide +kernel
  · decide +kernel
  · intro n h
    exact absurd h (by rw [show busy.noticeUnderWay = none by decide +kernel]; simp)
  · decide +kernel
  · decide +kernel
  · decide +kernel
  · decide +kernel
  · decide +kernel
  · decide +kernel
  · intro n h
    rw [show overdue.noticeUnderWay = some 20 by decide +kernel] at h
    cases h
    decide +kernel
  · decide +kernel
  · decide +kernel
  · decide +kernel
  · decide +kernel

/-- C4 and C6 wait with a session UP: C4 is the least class that is eligible, and in `base` none is. -/
theorem witness_DispatchRunLeavesNoClassEligible :
    let s : State := { up with classes := (up.classes.set 4 (classIn .pending [20])).set 6 (classIn .pending [21]) }
    s.eligible 4 = true ∧ s.eligible 6 = true ∧ (∀ d, d < 4 → s.eligible d = false) ∧ (∀ c, base.eligible c = false) := by
  decide +kernel

theorem witness_link_law : LinkLaw busy := by
  unfold LinkLaw
  decide +kernel

theorem witness_attn_law : AttnLaw busy := by
  unfold AttnLaw
  decide +kernel

theorem witness_store_law : StoreLaw busy := by
  have hc : ∀ k : SlotNo, k = 2 ∨ (busy.store.slot k).code ≠ 1 := by decide +kernel
  refine ⟨?_, ?_, ?_, ?_⟩
  · intro n g p h
    obtain rfl | hn := hc n
    · injection (show Slot.valid 5 factoryProfile = Slot.valid g p from h) with h1 _
      subst h1
      decide
    · exact absurd (by rw [h]; rfl) hn
  · intro m n g h p q hmn hm hn
    obtain rfl | h1 := hc m
    · obtain rfl | h2 := hc n
      · exact absurd rfl hmn
      · exact absurd (by rw [hn]; rfl) h2
    · exact absurd (by rw [hm]; rfl) h1
  · intro n p o t h
    injection (show Operation.save 0 factoryProfile { kind := 0x13, tag := 2 } 3030000 = Operation.save n p o t from h) with h1
    subst h1
    rfl
  · intro d o t h
    exact absurd (show Operation.save 0 factoryProfile { kind := 0x13, tag := 2 } 3030000 = Operation.setBoot d o t from h)
      (by intro h; cases h)

/-- A part in reset meets the law of a part in reset, and not for want of a reset. -/
theorem witness_reset_law : ResetLaw held ∧ held.power.inReset = true := by
  refine ⟨fun _ => ?_, by decide +kernel⟩
  refine ⟨?_, ?_, ?_, ?_, ?_, ?_, ?_, ?_, ?_, ?_⟩ <;> decide +kernel

/-- The step of the invariants' hypotheses exists. -/
theorem witness_step : (∃ t, step busy = .next t) ∧ (∃ t, step held = .next t) := ⟨⟨_, rfl⟩, ⟨_, rfl⟩⟩

/-! ### One step -/

theorem witness_StepTakesTheFrontCommand : busy.pending = .startUp :: [] := by decide +kernel

theorem witness_IdleStepTakesADueEventOrOneMicrosecond :
    (State.reset.pending = [] ∧ ({ State.reset with time := 1041 } : State).dueEvent = some .transmissionCompletion)
    ∧ (base.pending = [] ∧ base.dueEvent = none ∧ base.power.inReset = false)
    ∧ ((listening base).dueEvent = none ∧ (listening base).link.rxWait = some { quiet := .enabled, ends := 170 })
    ∧ (held.pending = [] ∧ held.power.inReset = true) := by decide +kernel

/-! ### The link -/

theorem base_admits : base.admits := by
  unfold State.admits
  decide +kernel

theorem up_admits : up.admits := by
  unfold State.admits
  decide +kernel

theorem noticed_admits : noticed.admits := by
  unfold State.admits
  decide +kernel

theorem served_admits : served.admits := by
  unfold State.admits
  decide +kernel

theorem expired_admits : expired.admits := by
  unfold State.admits
  decide +kernel

theorem saving_admits : saving.admits := by
  unfold State.admits
  decide +kernel

/-- The longest frame, and a frame of unknown kind. -/
theorem witness_FramesOnTheWireAreTheirCommands :
    (frameOf (.echo 1 (List.replicate 60 7)) = some { kind := 0x02, tag := 1, payload := List.replicate 60 7 }
      ∧ (Instr.echo 1 (List.replicate 60 7)).wf = true ∧ base.link.rxEnabled = true ∧ base.link.rx = .hunt)
    ∧ frameOf (.unknownKind 0x18 1 []) = some { kind := 0x18, tag := 1, payload := [] } ∧ (Instr.unknownKind 0x18 1 []).wf = true := by
  decide +kernel

theorem witness_RecordsAreReadBackAsWritten : ({ factorySettings with deadline := 1 } : ClassSettings).deadline ≠ 0 := by decide

/-- A full window. -/
def crowded : State :=
  { base with link := { base.link with window := [⟨1, 1⟩, ⟨1, 2⟩, ⟨1, 3⟩, ⟨1, 4⟩] } }

theorem witness_OrdersRefusedAtTheLink :
    frameOf (.status 1 []) = some { kind := 0x01, tag := 1, payload := [] } ∧ held.link.rxEnabled = false
    ∧ ((listening base).link.rxEnabled = true ∧ (listening base).link.rxWait = some { quiet := .enabled, ends := 170 })
    ∧ ((broken base).link.rxEnabled = true ∧ (broken base).link.rxWait = some { quiet := .characterError, ends := 92 })
    ∧ crowded.link.rxEnabled = true ∧ crowded.link.rxWait = none ∧ 4 ≤ crowded.link.window.length := by decide +kernel

/-- ECHO with one byte too many. -/
theorem witness_WrongLengthIsAnsweredMalformed :
    (base.admits)
    ∧ frameOf (.echo 1 (List.replicate 55 0)) = some { kind := 0x02, tag := 1, payload := List.replicate 55 0 }
    ∧ isOrderCode 0x02 = true ∧ lengthAdmitted 0x02 55 = false ∧ lengthAdmitted 0x02 54 = true := by
  unfold State.admits
  decide +kernel

/-- Two frames on the notice send list, the second of the lower class, and an answer that waits. -/
def queued : State :=
  { up with
    dispatcher := { up.dispatcher with sendList :=
      [{ notice := 8, cls := 8, kind := .first, payload := [] }, { notice := 7, cls := 3, kind := .again, payload := [] }] }
    link := { up.link with answers := [{ order := ⟨1, 1⟩, result := .ok, fields := [] }] } }

theorem witness_TransmitterArbiterChoosesInOrder :
    State.reset.link.tx.isSome = true
    ∧ (({ base with link := { base.link with startPending := true } } : State).link.tx = none)
    ∧ (queued.link.tx = none ∧ queued.link.startPending = false
      ∧ queued.link.answers = { order := ⟨1, 1⟩, result := .ok, fields := [] } :: [])
    ∧ (queued.dispatcher.sendList = [{ notice := 8, cls := 8, kind := .first, payload := [] }]
        ++ { notice := 7, cls := 3, kind := .again, payload := [] } :: []
      ∧ (∀ g ∈ [({ notice := 8, cls := 8, kind := .first, payload := [] } : NoticeFrame)], (3 : ClassNo) < g.cls)
      ∧ queued.link.answers ≠ [])
    ∧ (let s : State := { queued with link := { queued.link with answers := [] } }
      s.link.tx = none ∧ s.link.startPending = false ∧ s.link.answers = []
      ∧ s.dispatcher.sendList = [{ notice := 8, cls := 8, kind := .first, payload := [] }]
        ++ { notice := 7, cls := 3, kind := .again, payload := [] } :: [])
    ∧ (base.link.startPending = false ∧ base.link.answers = [] ∧ base.dispatcher.sendList = []) := by decide +kernel

theorem witness_ByteReceivedFollowsTheReceiveStates :
    held.link.rxEnabled = false
    ∧ ((listening base).link.rxEnabled = true ∧ (listening base).link.rxWait = some { quiet := .enabled, ends := 170 })
    ∧ ((broken base).link.rxEnabled = true ∧ (broken base).link.rxWait = some { quiet := .characterError, ends := 92 })
    ∧ base.link.rxEnabled = true ∧ base.link.rxWait = none ∧ base.link.rx = .hunt ∧ (60 : Byte).toNat ≤ 60 ∧ 61 ≤ (61 : Byte).toNat
    ∧ busy.link.rx = .tag 3 5 ∧ (1 ≤ 3) ∧ ([] : List Byte).length + 1 < 2 ∧ 1 ≤ ([] : List Byte).length + 1
    ∧ (0x61 : Byte) ++ (0x80 : Byte) = frameCheck 0x05 0x2A [9] ∧ (0x61 : Byte) ++ (0x81 : Byte) ≠ frameCheck 0x05 0x2A [9] := by
  decide +kernel

theorem witness_FrameFailuresAreCounted :
    (base.link.rxEnabled = true ∧ WireFailure.badCheck ≠ .characterError) ∧ (busy.link.rxEnabled = true ∧ busy.link.rx ≠ .hunt)
    ∧ base.link.rx = .hunt ∧ base.link.rxWait = none ∧ busy.link.rxWait = none ∧ held.link.rxEnabled = false
    ∧ ((listening base).link.rxEnabled = true ∧ (listening base).link.rxWait = some { quiet := .enabled, ends := 170 })
    ∧ ((broken base).link.rxEnabled = true ∧ (broken base).link.rxWait = some { quiet := .characterError, ends := 92 }
      ∧ WireFailure.lenOver60 ≠ .characterError)
    ∧ ({ busy with time := 3004000 } : State).link.rxTimer = some ({ busy with time := 3004000 } : State).time
    ∧ (busy.link.rxTimer = some 3004000 ∧ (3004000 : Time) ≠ busy.time ∧ ((3004000 : Time) - busy.time).toNat ≤ 65535000)
    ∧ base.link.rxTimer = none := by
  decide +kernel

theorem witness_TransmissionCompletionIsHandedOn :
    (∃ x, ({ State.reset with time := 1041 } : State).link.tx = some x ∧ x.ends = 1041 ∧ x.origin = .start)
    ∧ (∃ x, ({ busy with time := 3000100 } : State).link.tx = some x ∧ x.ends = 3000100 ∧ x.origin = .answer ⟨5, 1⟩ false)
    ∧ (∃ x, (whileSending base (.answer ⟨0x17, 1⟩ true) 0).link.tx = some x ∧ x.ends = base.time ∧ x.origin = .answer ⟨0x17, 1⟩ true)
    ∧ (∃ x, (whileSending noticed (.notice (some 9)) 100000).link.tx = some x ∧ x.ends = noticed.time
      ∧ x.origin = .notice (some (notified 9 5 [20, 21]).number)
      ∧ (whileSending noticed (.notice (some 9)) 100000).dispatcher.entries = [] ++ notified 9 5 [20, 21] :: []
      ∧ ∀ y ∈ ([] ++ [] : List NoticeEntry), y.number ≠ (notified 9 5 [20, 21]).number)
    ∧ (∃ x, (whileSending base (.notice none) 0).link.tx = some x ∧ x.ends = base.time ∧ x.origin = .notice none)
    ∧ (∃ x, (whileSending base .overdue 0).link.tx = some x ∧ x.ends = base.time ∧ x.origin = .overdue)
    ∧ (∃ x, busy.link.tx = some x ∧ x.ends ≠ busy.time ∧ (x.ends - busy.time).toNat ≤ 65535000)
    ∧ base.link.tx = none := by
  refine ⟨⟨_, rfl, ?_, rfl⟩, ⟨_, rfl, ?_, rfl⟩, ⟨_, rfl, ?_, rfl⟩, ⟨_, rfl, ?_, rfl, ?_, ?_⟩, ⟨_, rfl, ?_, rfl⟩, ⟨_, rfl, ?_, rfl⟩,
    ⟨_, rfl, ?_, ?_⟩, ?_⟩ <;> decide +kernel

theorem witness_StatusReportsTheWholePart : noticed.admits := noticed_admits

theorem witness_EchoAndUnknownKindAreAnsweredAtOnce :
    base.admits ∧ (List.replicate 54 (0 : Byte)).length ≤ 54 ∧ 55 ≤ (List.replicate 55 (0 : Byte)).length
    ∧ isOrderCode 0x18 = false ∧ isOrderCode 0 = false :=
  ⟨base_admits, by decide +kernel, by decide +kernel, by decide, by decide⟩

theorem witness_GetLinesGetProfilesAndRestartAreReads : saving.admits := saving_admits

/-! ### Sources and steering -/

/-- S4 in RISE with a qualification of `q` steps. -/
def rising (q : Fin 16) : State := oneSource 4 { entry .rise 2 with qualification := q } (resetSource .low)

theorem witness_SourceLinesAreQualified :
    ((base.src 4).raw = .low ∧ (held.src 4).raw ≠ .high ∧ held.power.inReset = true)
    ∧ (((rising 15).src 4).raw ≠ .high ∧ (rising 15).power.inReset = false ∧ ((rising 15).src 4).timer = none
      ∧ Level.high ≠ ((rising 15).src 4).qualified ∧ ((rising 15).steer 4).qualification ≠ 0)
    ∧ ((rising 0).steer 4).qualification = 0
    ∧ ((busy.src 4).raw ≠ .low ∧ busy.power.inReset = false ∧ (busy.src 4).timer.isSome = true ∧ Level.low = (busy.src 4).qualified)
    ∧ ((busy.src 4).timer = some { target := .high, expiry := 3000060 } ∧ (3000060 : Time) ≠ busy.time
      ∧ ((3000060 : Time) - busy.time).toNat ≤ 65535000 ∧ ({ busy with time := 3000060 } : State).time = 3000060) := by decide +kernel

theorem witness_QualifiedTransitionsActByMode :
    (base.steer 4).mode = .off ∧ ((rising 0).steer 4).mode = .rise
    ∧ ((oneSource 4 (entry .both 2) (resetSource .low)).steer 4).mode = .both
    ∧ ((oneSource 4 (entry .fall 2) (resetSource .low)).steer 4).mode = .fall
    ∧ ((noticed.steer 20).mode = .levelHigh ∧ (noticed.src 20).live = true ∧ (noticed.src 20).forced = false)
    ∧ ((served.steer 14).mode = .levelLow ∧ (served.src 14).live = true)
    ∧ ((oneSource 4 (entry .levelLow 2) (resetSource .high)).src 4).live = false := by decide +kernel

theorem witness_ForceAcceptedActsOnTheSource :
    ((rising 0).admits
      ∧ (oneSource 4 (entry .levelHigh 2) (resetSource .low)).admits
      ∧ noticed.admits
      ∧ (oneSource 4 (entry .levelHigh 2) { source .low 1 false true with forced := true }).admits)
    ∧ (31 : Byte).toNat = (31 : SourceNo).val
    ∧ ((rising 0).steer 4).mode.isEdge = true
    ∧ (((oneSource 4 (entry .levelHigh 2) (resetSource .low)).steer 4).mode.isLevel = true
      ∧ ((oneSource 4 (entry .levelHigh 2) (resetSource .low)).src 4).live = false)
    ∧ ((noticed.steer 20).mode.isLevel = true ∧ (noticed.src 20).live = true ∧ (noticed.src 20).qualified = .high)
    ∧ (((oneSource 4 (entry .levelHigh 2) { source .low 1 false true with forced := true }).src 4).live = true
      ∧ ((oneSource 4 (entry .levelHigh 2) { source .low 1 false true with forced := true }).src 4).qualified ≠ .high) := by
  unfold State.admits
  decide +kernel

theorem witness_ForceRefusedChangesNothing :
    (base.admits ∧ noticed.admits ∧ (rising 0).admits)
    ∧ 32 ≤ (32 : Byte).toNat ∧ (31 : Byte).toNat = (31 : SourceNo).val ∧ ((4 : Byte) ≠ 1 ∧ (4 : Byte) ≠ 2 ∧ (4 : Byte) ≠ 3)
    ∧ (base.steer 31).mode = .off ∧ (noticed.steer 20).mode.isLevel = true ∧ ((rising 0).steer 4).mode.isEdge = true := by
  unfold State.admits
  decide +kernel

/-- S3 in LEVEL-LOW joins S14's class, which is IDLE in `joining`. -/
def joining : State := oneSource 14 (entry .levelLow 5) (resetSource .high)

theorem witness_SetSteerAcceptedReplacesTheEntry :
    (joining.admits)
    ∧ (3 : Byte).toNat = (3 : SourceNo).val ∧ steerEntry? 5 5 15 1 = some { entry .levelLow 5 with qualification := 15 }
    ∧ (∀ k, (joining.steer 3).cls = some k → (joining.klass k).state.inFlight = false)
    ∧ (∀ k, (entry .levelLow 5).cls = some k → ∀ n, n ≠ (3 : SourceNo) → (joining.steer n).cls = some k →
        (entry .levelLow 5).mode.isEdge = false ∧ (joining.steer n).mode.isEdge = false) := by
  unfold State.admits
  decide +kernel

theorem witness_SetSteerRefusedChangesNothing :
    (base.admits ∧ served.admits ∧ joining.admits ∧ (rising 0).admits)
    ∧ (32 ≤ (32 : Byte).toNat ∧ 5 < (6 : Byte).toNat ∧ (15 < (16 : Byte).toNat ∧ (16 : Byte) ≠ 0xFF) ∧ 1 < (2 : Byte).toNat)
    ∧ ((14 : Byte).toNat = (14 : SourceNo).val ∧ steerEntry? 0 0xFF 0 0 = some factoryEntry ∧ (served.steer 14).cls = some 5
      ∧ (served.klass 5).state.inFlight = true)
    ∧ (steerEntry? 1 5 0 1 = some (entry .rise 5)
      ∧ (∀ x, (joining.steer 3).cls = some x → (joining.klass x).state.inFlight = false)
      ∧ (14 : SourceNo) ≠ 3 ∧ (joining.steer 14).cls = some 5 ∧ (entry .rise 5).mode.isEdge = true
      ∧ (∀ x, x < 14 → x ≠ (3 : SourceNo) → (joining.steer x).cls ≠ some 5))
    ∧ (steerEntry? 4 2 0 1 = some (entry .levelHigh 2)
      ∧ (∀ x, ((rising 0).steer 3).cls = some x → ((rising 0).klass x).state.inFlight = false)
      ∧ (4 : SourceNo) ≠ 3 ∧ ((rising 0).steer 4).cls = some 2 ∧ ((rising 0).steer 4).mode.isEdge = true
      ∧ (∀ x, x < 4 → x ≠ (3 : SourceNo) → ((rising 0).steer x).cls = some 2 → ((rising 0).steer x).mode.isEdge = false)) := by
  unfold State.admits
  refine ⟨?_, ?_⟩ <;> decide +kernel

theorem witness_GetSteerAndGetClassAreReads :
    (served.admits)
    ∧ (32 ≤ (32 : Byte).toNat ∧ (14 : Byte).toNat = (14 : SourceNo).val ∧ (served.line 6).pairing.source = some 14
      ∧ (∀ h, h < (6 : LineNo) → (served.line h).pairing.source ≠ some 14))
    ∧ (∀ g, (served.line g).pairing.source ≠ some 31) ∧ 16 ≤ (16 : Byte).toNat ∧ (15 : Byte).toNat = (15 : ClassNo).val := by
  unfold State.admits
  decide +kernel

/-! ### Classes -/

theorem witness_ClassRecordsMoveByTheRulesOfEntry :
    ((resetClass factorySettings).state = .idle ∧ (resetClass factorySettings).reported = [])
    ∧ (classIn .pending [4]).state = .pending ∧ ((classIn .held []).state ≠ .idle ∧ (classIn .held []).state ≠ .pending)
    ∧ ([4] : List SourceNo) ≠ [] := by decide +kernel

theorem witness_ContributionReportsReachTheirClass :
    busy.flight.reports = [] ++ { source := 14, cls := 5, contributes := true } :: []
    ∧ (∀ x ∈ ([] : List Report), x.source ≠ 14) ∧ (∀ r ∈ busy.flight.reports, r.source ≠ 4) := by decide +kernel

theorem witness_ClassTimersExpire :
    (let t : State := { oneClass 1 { criticalIn .pending with deadlineTimer := some 1090000 } with time := 1090000 };
      (t.klass 1).deadlineTimer = some t.time)
    ∧ (let t : State := { busy with time := 3005000 };
      (t.klass 1).holdTimer = some t.time)
    ∧ ((busy.klass 1).holdTimer = some 3005000 ∧ (3005000 : Time) ≠ busy.time ∧ ((3005000 : Time) - busy.time).toNat ≤ 65535000)
    ∧ (base.klass 1).deadlineTimer = none ∧ (base.klass 1).holdTimer = none
    ∧ reached 5 5 = true ∧ reached 4 5 = false ∧ reached 0 65535000 = false := by decide +kernel

theorem witness_SetClassFollowsR53AndR54 :
    (base.admits ∧ noticed.admits)
    ∧ 16 ≤ (16 : Byte).toNat ∧ (15 : Byte).toNat = (15 : ClassNo).val
    ∧ 1 < (2 : Byte).toNat ∧ (1 : Byte).toNat ≤ 1 ∧ ((0 : Byte) ≠ 0 ∨ (1 : Byte) ≠ 0)
    ∧ (noticed.klass 5).state.inFlight = true ∧ (base.klass 15).state.inFlight = false := by
  unfold State.admits
  decide +kernel

theorem witness_MaskActsOnTheSelectedClasses : base.admits ∧ (0 : Byte) ≠ 1 ∧ (0 : Byte) ≠ 2 := ⟨base_admits, by decide, by decide⟩

theorem witness_ClearAlarmFollowsTheLateFlags :
    (busy.admits ∧ ({ base with alarm := true } : State).admits ∧ base.admits)
    ∧ (busy.klass 1).late = true
    ∧ ((∀ c, (({ base with alarm := true } : State).klass c).late = false) ∧ ({ base with alarm := true } : State).alarm = true)
    ∧ ((∀ c, (base.klass c).late = false) ∧ base.alarm = false) := by
  unfold State.admits
  decide +kernel

/-! ### Notices -/

/-- C5 waits with a session UP, and the counter stands at 255, a number that C3's entry carries. -/
def waiting : State :=
  { up with
    classes := up.classes.set 5 (classIn .pending [20])
    dispatcher := { entries := [notified 255 3 [12]], nextNumber := 255, sendList := [] } }

theorem witness_NoticeCreationFollowsR64AndR65 :
    base.eligible 5 = false ∧ waiting.eligible 5 = true ∧ waiting.dispatcher.nextNumber ≠ 0
    ∧ nextNumber^[1] waiting.dispatcher.nextNumber = 1 := by decide +kernel

theorem witness_entries (s : State) (e : NoticeEntry) (h : s.dispatcher.entries = [e]) :
    s.dispatcher.entries = [] ++ e :: [] ∧ ∀ x ∈ ([] ++ [] : List NoticeEntry), x.number ≠ e.number :=
  ⟨h, by simp⟩

theorem witness_ClaimTakesTheNotice :
    (noticed.admits)
    ∧ noticed.flight.loss = none ∧ noticed.session.up = true ∧ (9 : Byte) ≠ 0
    ∧ noticed.dispatcher.entries = [] ++ notified 9 5 [20, 21] :: [] ∧ (notified 9 5 [20, 21]).state = .notified := by
  unfold State.admits
  decide +kernel

theorem witness_ReleaseEndsTheService :
    (served.admits ∧ expired.admits)
    ∧ (served.flight.loss = none ∧ served.session.up = true
      ∧ ∃ e, served.dispatcher.entries = [] ++ e :: [] ∧ e.number = 20 ∧ e.state ≠ .notified)
    ∧ (expired.flight.loss = none ∧ expired.session.up = true
      ∧ ∃ e, expired.dispatcher.entries = [] ++ e :: [] ∧ e.number = 20 ∧ e.state = .expired) := by
  unfold State.admits
  refine ⟨by decide +kernel, ⟨⟨?_, ?_, _, rfl, ?_, ?_⟩, ?_, ?_, _, rfl, ?_, ?_⟩⟩ <;> decide +kernel

theorem witness_ReturnGivesTheNoticeBack :
    (noticed.admits)
    ∧ noticed.flight.loss = none ∧ noticed.session.up = true
    ∧ noticed.dispatcher.entries = [] ++ notified 9 5 [20, 21] :: [] ∧ (notified 9 5 [20, 21]).state = .notified := by
  unfold State.admits
  decide +kernel

theorem witness_SettlementRefusedChangesNothing :
    (base.admits ∧ up.admits ∧ served.admits ∧ noticed.admits)
    ∧ (base.flight.loss = none ∧ base.session.up = false) ∧ (up.flight.loss = none ∧ up.session.up = true)
    ∧ (∀ e ∈ noticed.dispatcher.entries, e.number ≠ 8)
    ∧ (∃ e, served.dispatcher.entries = [] ++ e :: [] ∧ e.number = 20 ∧ e.state ∈ [EntryState.inService, .expired])
    ∧ (noticed.dispatcher.entries = [] ++ notified 9 5 [20, 21] :: [] ∧ (notified 9 5 [20, 21]).state ∈ [EntryState.notified]) := by
  unfold State.admits
  refine ⟨by decide +kernel, ⟨⟨?_, ?_⟩, ⟨?_, ?_⟩, ?_, ⟨_, rfl, ?_, ?_⟩, ?_, ?_⟩⟩ <;> decide +kernel

theorem witness_NoticeTimersExpire :
    (({ noticed with time := 110000 } : State).dispatcher.entries = [] ++ notified 9 5 [20, 21] :: []
      ∧ (notified 9 5 [20, 21]).number ≠ 0 ∧ (notified 9 5 [20, 21]).answerTimer = some ({ noticed with time := 110000 } : State).time
      ∧ noticed.flight.loss = none ∧ (notified 9 5 [20, 21]).sent ≤ noticed.session.retryLimit.toNat
      ∧ noticed.session.retryLimit.toNat < ({ notified 9 5 [20, 21] with sent := 2 } : NoticeEntry).sent
      ∧ (notified 9 5 [20, 21]).serviceTimer = none)
    ∧ ((110000 : Time) ≠ noticed.time ∧ ((110000 : Time) - noticed.time).toNat ≤ 65535000)
    ∧ (∃ e, ({ served with time := 3030000 } : State).dispatcher.entries = [] ++ e :: [] ∧ e.number ≠ 0
      ∧ e.serviceTimer = some 3030000 ∧ e.answerTimer = none)
    ∧ ((3030000 : Time) ≠ served.time ∧ ((3030000 : Time) - served.time).toNat ≤ 65535000) := by
  refine ⟨by decide +kernel, by decide +kernel, ⟨_, rfl, ?_, ?_, ?_⟩, by decide +kernel⟩ <;> decide +kernel

/-! ### Grant lines -/

/-- `served` with a request to grant S14 under notice `n`, the line in a given state. -/
def asked (r : LineRecord) (n : Byte) : State := { servedLine r with flight := { noMessages with asks := [.grant 14 n] } }

theorem witness_GrantRequestsActOnTheLines :
    ((asked (served.line 6) 20).flight.asks = .grant 14 20 :: [] ∧ ((asked (served.line 6) 20).line 6).pairing.source = some 14
      ∧ (∀ h, h < 6 → ((asked (served.line 6) 20).line h).pairing.source ≠ some 14)
      ∧ ((asked (served.line 6) 20).line 6).pairing.endOnWithdraw = false ∧ ((asked (served.line 6) 20).line 6).state = .granted)
    ∧ ((asked (freshLine { factoryPairing with source := some 14 }) 20).line 6).state = .ready
    ∧ ((asked { served.line 6 with state := .guarding, notice := none, guardTimer := some 3000010 } 20).line 6).state = .guarding
    ∧ (∀ g, ((asked (freshLine factoryPairing) 20).line g).pairing.source ≠ some 14)
    ∧ busy.flight.asks = .finish 20 :: [] ∧ base.flight.asks = [] := by decide +kernel

/-- The end-on-withdraw test applies: the option is on and the source in a level mode is not live. -/
theorem witness_GrantRequestsActOnTheLines_withdrawn :
    let s := { asked (freshLine { factoryPairing with source := some 14, endOnWithdraw := true }) 20 with
      sources := served.sources.set 14 (source .high 0 false false) }
    (s.line 6).pairing.source = some 14 ∧ (s.line 6).pairing.endOnWithdraw = true ∧ (s.steer 14).mode.isLevel = true
    ∧ (s.src 14).live = false ∧ 14 ∉ s.flight.withdrawals := by decide +kernel

/-- The withdrawal is told and not yet taken. -/
theorem witness_GrantRequestsActOnTheLines_race :
    (racing .ready).flight.asks = .grant 14 20 :: [] ∧ 14 ∈ (racing .ready).flight.withdrawals
    ∧ ((racing .ready).line 6).pairing.source = some 14 ∧ (∀ h, h < 6 → ((racing .ready).line h).pairing.source ≠ some 14)
    ∧ ((racing .ready).line 6).state = .ready ∧ ((racing .guarding).line 6).state = .guarding := by decide +kernel

/-- A withdrawal of S14 told, with the option on, the line in a given state and guard. -/
def told (x : LineState) (waits : Bool) (n : Option Byte) (guardTime : Byte) : State :=
  { servedLine
      { pairing := { factoryPairing with source := some 14, guardTime := guardTime, endOnWithdraw := true }, state := x
        waiting := waits, notice := n, guardTimer := none } with
    flight := { noMessages with withdrawals := [14] } }

theorem witness_WithdrawalsEndGrantsWhereSet :
    (4 : SourceNo) ∉ busy.flight.withdrawals
    ∧ (14 ∈ (told .ready false none 0).flight.withdrawals ∧ ((told .ready false none 0).line 6).pairing.source = some 14
      ∧ (∀ h, h < 6 → ((told .ready false none 0).line h).pairing.source ≠ some 14) ∧ ((told .ready false none 0).line 6).state = .ready)
    ∧ (((told .granted false (some 20) 0).line 6).pairing.endOnWithdraw = true
      ∧ ((told .granted false (some 20) 0).steer 14).mode.isLevel = true
      ∧ ((told .granted false (some 20) 0).line 6).state = .granted ∧ ((told .granted false (some 20) 0).line 6).pairing.guardTime = 0)
    ∧ ((told .granted false (some 20) 255).line 6).pairing.guardTime ≠ 0
    ∧ (((told .guarding true (some 20) 255).line 6).state = .guarding ∧ ((told .guarding true (some 20) 255).line 6).waiting = true)
    ∧ (14 ∈ ({ base with flight := { noMessages with withdrawals := [14] } } : State).flight.withdrawals
      ∧ ∀ g, (base.line g).pairing.source ≠ some 14) := by decide +kernel

theorem witness_GuardsExpireAndOutputsFollow :
    (base.line 1).guardTimer = none
    ∧ ((busy.line 1).guardTimer = some 3000005 ∧ (busy.line 1).waiting = true ∧ (3000005 : Time) ≠ busy.time
      ∧ ((3000005 : Time) - busy.time).toNat ≤ 65535000)
    ∧ (let t : State := { busy with time := 3000005 };
      (t.line 1).guardTimer = some t.time)
    ∧ (let r : LineRecord := { busy.line 1 with waiting := false, notice := none }
      r.waiting = false ∧ r.pairing.source ≠ none)
    ∧ (let r : LineRecord := { busy.line 1 with waiting := false, notice := none, pairing := factoryPairing }
      r.waiting = false ∧ r.pairing.source = none)
    ∧ held.power.inReset = true ∧ busy.power.inReset = false := by decide +kernel

theorem witness_PairGrantChecksThenPairs :
    (base.admits ∧ served.admits)
    ∧ (base.flight.asks = [] ∧ (asked (served.line 6) 20).flight.asks = .grant 14 20 :: [] ∧ busy.flight.asks = .finish 20 :: [])
    ∧ (8 ≤ (8 : Byte).toNat ∧ (7 : Byte).toNat = (7 : LineNo).val ∧ (32 ≤ (32 : Byte).toNat ∧ (32 : Byte) ≠ 0xFF))
    ∧ pairing? 14 0 255 1 = some { source := some 14, polarity := .activeHigh, guardTime := 255, endOnWithdraw := true }
    ∧ (served.takeAsks.line 6).holds = true
    ∧ ((served.takeAsks.line 1).holds = false ∧ (6 : LineNo) ≠ 1 ∧ (served.takeAsks.line 6).pairing.source = some 14
      ∧ (∀ y, y < 6 → y ≠ (1 : LineNo) → (served.takeAsks.line y).pairing.source ≠ some 14))
    ∧ (∀ h, h ≠ (1 : LineNo) → (served.takeAsks.line h).pairing.source ≠ some 31) := by
  unfold State.admits
  decide +kernel

/-- Each request handed has a next state. -/
theorem witness_PairGrantChecksThenPairs_next :
    (∃ t, exec .grantRequest (asked (served.line 6) 20) = .next t) ∧ (∃ t, exec .grantEndRequest busy = .next t) :=
  ⟨⟨_, rfl⟩, ⟨_, rfl⟩⟩

/-! ### The journal -/

/-- A journal with a record handed. -/
def arriving (j : Journal) : State := { base with journal := j, flight := { noMessages with arrivals := [{ time := 7, kind := .claim }] } }

/-- One GAP of `n` numbers from sequence 1. -/
def gapOf (n : Nat) : Journal :=
  { records := [{ seq := 1, body := { time := 0, kind := .gap, count := some (BitVec.ofNat 32 n) } }]
    next := BitVec.ofNat 32 (n + 1) }

theorem witness_JournalArrivalsFollowR104AndR105 :
    (arriving (journalOf 1 126)).flight.arrivals = { time := 7, kind := .claim } :: []
    ∧ ((journalOf 1 126).next - (journalOf 1 126).oldest).toNat < 2147483647 ∧ (journalOf 1 126).records.length ≤ 126
    ∧ ((journalOf 1 127).records.length = 127 ∧ (journalOf 1 127).records.getLast?.map (·.body.kind) ≠ some .gap)
    ∧ ¬ ((gapOf 2147483647).next - (gapOf 2147483647).oldest).toNat < 2147483647
    ∧ ((gapOf 2147483646).next - (gapOf 2147483646).oldest).toNat < 2147483647 := by decide +kernel

theorem witness_JournalArrivalsFollowR104AndR105_absorb :
    let l := (journalOf 1 126).records ++ [({ seq := 127, body := { time := 0, kind := .gap, count := some 1 } } : JournalRecord)]
    127 ≤ l.length ∧ ((128 : Seq) - ({ records := l, next := 128 } : Journal).oldest).toNat < 2147483647 := by decide +kernel

/-- The positions 1 and 2 are within the journal of `base`, 3 is its next sequence, 0 is older. -/
theorem witness_ReadJournalReturnsUpToThreeRecords :
    (base.admits)
    ∧ (((2 : Seq) - base.journal.oldest).toNat < (base.journal.next - base.journal.oldest).toNat
      ∧ ∃ x y, base.journal.records = [x] ++ y :: [] ∧ ((2 : Seq) - y.seq).toNat < y.coverage ∧ x.coverage ≤ ((2 : Seq) - x.seq).toNat)
    ∧ (¬ ((3 : Seq) - base.journal.oldest).toNat < (base.journal.next - base.journal.oldest).toNat
      ∧ ((3 : Seq) - base.journal.next).toNat < 2147483648)
    ∧ (¬ ((0 : Seq) - base.journal.oldest).toNat < (base.journal.next - base.journal.oldest).toNat
      ∧ 2147483648 ≤ ((0 : Seq) - base.journal.next).toNat) := by
  unfold State.admits
  refine ⟨by decide +kernel, ⟨⟨?_, _, _, rfl, ?_, ?_⟩, ?_, ?_⟩⟩ <;> decide +kernel

theorem witness_TrimJournalRemovesWholeCoverages :
    (base.admits)
    ∧ ((1 : Seq) - base.journal.oldest).toNat < (base.journal.next - base.journal.oldest).toNat
    ∧ ∃ x y, base.journal.records = [x] ++ [y]
      ∧ (x.seq - base.journal.oldest).toNat + x.coverage ≤ ((1 : Seq) - base.journal.oldest).toNat + 1
      ∧ ¬ (y.seq - base.journal.oldest).toNat + y.coverage ≤ ((1 : Seq) - base.journal.oldest).toNat + 1 := by
  unfold State.admits
  refine ⟨by decide +kernel, ⟨?_, _, _, rfl, ?_, ?_⟩⟩ <;> decide +kernel

/-! ### Sessions, profiles, resets -/

theorem witness_OpenBeginsASession :
    (base.admits ∧ up.admits)
    ∧ base.flight.loss = none ∧ base.session.up = false ∧ up.session.up = true
    ∧ (1 ≤ (8 : Byte).toNat ∧ (8 : Byte).toNat ≤ 8 ∧ (255 : Byte) ≠ 0 ∧ (7 : Byte).toNat ≤ 7 ∧ (1 : Byte).toNat ≤ 1)
    ∧ ¬ (9 : Byte).toNat ≤ 8 := by
  unfold State.admits
  decide +kernel

/-- A part whose retries are exhausted. -/
def losing : State := { noticed with flight := { noMessages with loss := some { cls := 5, notice := 9 } } }

theorem witness_TeardownEndsTheSession :
    (base.admits ∧ noticed.admits)
    ∧ (noticed.flight.loss = none ∧ noticed.session.up = true) ∧ base.session.up = false
    ∧ losing.flight.loss = some { cls := 5, notice := 9 } ∧ losing.flight.asks = []
    ∧ (served.flight.asks = [] ∧ ∃ e ∈ served.dispatcher.entries, (served.line 6).notice = some e.number) := by
  unfold State.admits
  decide +kernel

/-- A part with grants that keeps the laws of its lines. -/
theorem witness_TeardownEndsTheSession_grants : (LinesLaw busy ∧ GrantsLaw busy) ∧ (busy.line 6).holds = true :=
  ⟨⟨witness_lines_law, witness_grants_law.1⟩, by decide +kernel⟩

theorem witness_ReportedLossIsTakenFirst :
    losing.admits ∧ losing.flight.loss = some { cls := 5, notice := 9 } ∧ ∃ t, exec .sessionLost losing = .next t :=
  ⟨by unfold State.admits; decide +kernel, by decide +kernel, _, rfl⟩

theorem witness_StoreOperationsBegin :
    (base.admits ∧ saving.admits)
    ∧ 4 ≤ (4 : Byte).toNat ∧ (4 : Byte) ≠ 0xFF ∧ saving.store.operation ≠ .none ∧ (3 : Byte).toNat = (3 : SlotNo).val
    ∧ base.store.operation = .none := by
  unfold State.admits
  decide +kernel

theorem witness_StoreOperationsComplete :
    ({ saving with time := 10030000 } : State).store.operation
        = .save 0 factoryProfile { kind := 0x13, tag := 1 } ({ saving with time := 10030000 } : State).time
    ∧ (let t : State := { base with
          time := 6000, store := { base.store with operation := .setBoot none { kind := 0x15, tag := 1 } 6000 } }
      t.store.operation = .setBoot none { kind := 0x15, tag := 1 } t.time)
    ∧ (∀ n p o t, saving.store.operation = .save n p o t → t ≠ saving.time ∧ (t - saving.time).toNat ≤ 65535000)
    ∧ (∀ d o t, base.store.operation = .setBoot d o t → t ≠ base.time ∧ (t - base.time).toNat ≤ 65535000) := by
  refine ⟨by decide +kernel, by decide +kernel, ?_, ?_⟩
  · intro n p o t h
    injection (show Operation.save 0 factoryProfile { kind := 0x13, tag := 1 } 10030000 = Operation.save n p o t from h) with _ _ _ h4
    subst h4
    decide +kernel
  · intro d o t h
    exact absurd (show Operation.none = Operation.setBoot d o t from h) (by intro h; cases h)

theorem witness_LoadProfilePutsTheSlotInForce :
    (base.admits ∧ saving.admits ∧ noticed.admits)
    ∧ (4 ≤ (4 : Byte).toNat ∧ (3 : Byte).toNat < 4 ∧ saving.store.operation ≠ .none)
    ∧ (base.store.slot 3 = .empty ∧ saving.store.slot 0 = .invalid ∧ saving.store.slot 2 = .valid 5 factoryProfile)
    ∧ (noticed.dispatcher.entries ≠ [] ∧ base.dispatcher.entries = [] ∧ base.store.operation = .none) := by
  unfold State.admits
  decide +kernel

theorem witness_StartUpFollowsR160AndR161 :
    (base.power.inReset = false ∧ held.power.pinLow = true)
    ∧ (let s : State := { held with power := { held.power with pinLow := false }, store := { saving.store with operation := .none } }
      s.power.inReset = true ∧ s.power.supplyOut = false ∧ s.power.pinLow = false ∧ s.link.tx = none
      ∧ s.store.boot = some 0 ∧ s.store.slot 0 = .invalid)
    ∧ base.store.boot = none := by decide +kernel

end Sys2Proof.Tests
end

/-! ## Orders answered at their arrival

What an admitted order does before and with its answer, and the three reads that are nothing but an answer. -/

namespace Sys2Proof.Proofs

open Sys2Proof Sys2Proof.Machine Sys2Proof.Laws

/-- An admitted order is taken by its body, once it has entered the window (R121, R122). -/
theorem takeOrder_of_admits {s : State} (h : s.admits) (kind tag : Byte) (payload : List Byte) (body : Order → State → State) :
    s.takeOrder kind tag payload body = body { kind := kind, tag := tag } (s.enterWindow { kind := kind, tag := tag }) := by
  obtain ⟨henabled, hwait, hroom⟩ := h
  simp only [State.takeOrder, henabled, hwait, if_true, if_neg (Nat.not_le.mpr hroom)]

/-- Entering the window and joining the answer queue are together `answered`; the transmitter arbiter follows (R126, R127). -/
theorem enterWindow_reply (s : State) (o : Order) (r : Result) (fields : List Byte) :
    (s.enterWindow o).reply o r fields = (s.answered o r fields).transmit := rfl

/-- The fields of GET-LINES do not depend on the order window. -/
@[simp] theorem enterWindow_linesFields (s : State) (o : Order) : (s.enterWindow o).linesFields = s.linesFields := rfl

/-- GET-LINES without payload, admitted (R16). -/
theorem exec_getLines_nil {s : State} (h : s.admits) (tag : Byte) :
    exec (.getLines tag []) s = .next (s.answered { kind := 0x0F, tag := tag } .ok s.linesFields).transmit :=
  congrArg Host.Outcome.next <| by rw [takeOrder_of_admits h, enterWindow_reply, enterWindow_linesFields]

/-- GET-PROFILES without payload, admitted (R157). -/
theorem exec_getProfiles_nil {s : State} (h : s.admits) (tag : Byte) :
    exec (.getProfiles tag []) s = .next (s.answered { kind := 0x16, tag := tag } .ok s.store.profileFields).transmit :=
  congrArg Host.Outcome.next <| by simp only [takeOrder_of_admits h, enterWindow_reply, enterWindow_frame]

/-- RESTART without payload, admitted (R159); the reset waits for the answer's transmission. -/
theorem exec_restart_nil {s : State} (h : s.admits) (tag : Byte) :
    exec (.restart tag []) s = .next (s.answered { kind := 0x17, tag := tag } .ok s.store.operation.bytes).transmit :=
  congrArg Host.Outcome.next <| by simp only [takeOrder_of_admits h, enterWindow_reply, enterWindow_frame]

/-- Settles O25: each of the three is an admitted order whose body is its answer, so it does what `exec_getLines_nil`,
`exec_getProfiles_nil` and `exec_restart_nil` say, with the model's field lists written out. -/
theorem getLinesGetProfilesAndRestartAreReads : Obligations.GetLinesGetProfilesAndRestartAreReads := by
  intro tag s h
  exact ⟨exec_getLines_nil h tag, exec_getProfiles_nil h tag, exec_restart_nil h tag⟩

end Sys2Proof.Proofs

/-! ## The two table reads

GET-STEER and GET-CLASS: an order's number as a row of its table, the answer for a row, and the fields that a class's answer spells
out. -/

namespace Sys2Proof.Proofs

open Sys2Proof Sys2Proof.Machine Sys2Proof.Laws

/-! ### Numbers as received -/

theorem sourceNo?_of_eq {b : Byte} {i : SourceNo} (h : b.toNat = i.val) : sourceNo? b = some i := by
  simp only [sourceNo?, h, i.isLt, dif_pos]

theorem sourceNo?_of_le {b : Byte} (h : 32 ≤ b.toNat) : sourceNo? b = none := dif_neg (Nat.not_lt.mpr h)

theorem classNo?_of_eq {b : Byte} {c : ClassNo} (h : b.toNat = c.val) : classNo? b = some c := by
  simp only [classNo?, h, c.isLt, dif_pos]

theorem classNo?_of_le {b : Byte} (h : 16 ≤ b.toNat) : classNo? b = none := dif_neg (Nat.not_lt.mpr h)

/-! ### The paired line -/

/-- The paired line is the first that names the source; no premise says that it is the only one (R88). -/
theorem pairedLine_eq_some_of_least {s : State} {i : SourceNo} {g : LineNo} (hg : (s.line g).pairing.source = some i)
    (hleast : ∀ h, h < g → (s.line h).pairing.source ≠ some i) : s.pairedLine i = some g := by
  refine List.find?_eq_some_iff_getElem.mpr ⟨by simp [hg], g.val, by simp [allLines], by simp [allLines], ?_⟩
  intro h hh
  have hne := hleast ⟨h, hh.trans g.isLt⟩ hh
  simpa [allLines] using hne

theorem pairedLine_eq_none_of_forall {s : State} {i : SourceNo} (h : ∀ g, (s.line g).pairing.source ≠ some i) :
    s.pairedLine i = none := by
  simp [State.pairedLine, h]

/-! ### Sets of a class -/

/-- Membership is being steered to the class (R18). -/
theorem members_contains (s : State) (c : ClassNo) (i : SourceNo) :
    (s.members c).contains i = decide ((s.steer i).cls = some c) := by
  simp [State.members, List.contains_eq_mem]

/-- The contributors are the members that contribute (R32). -/
theorem contributors_contains (s : State) (c : ClassNo) (i : SourceNo) :
    (s.contributors c).contains i = (decide ((s.steer i).cls = some c) && s.contributes i) := by
  simp [State.contributors, State.members, List.contains_eq_mem, Bool.and_comm]

/-! ### The answers -/

theorem exec_getSteer_range {s : State} (h : s.admits) (tag : Byte) {b : Byte} (hb : 32 ≤ b.toNat) :
    exec (.getSteer tag [b]) s = .next (s.answered { kind := 0x09, tag := tag } .range [b]).transmit :=
  congrArg Host.Outcome.next <| by
    simp only [takeOrder_of_admits h, getSteerOrder, sourceNo?_of_le hb, enterWindow_reply]

/-- GET-STEER of a source reads its entry and its paired line (R30). -/
theorem exec_getSteer_source {s : State} (h : s.admits) (tag : Byte) {b : Byte} {i : SourceNo} (hb : b.toNat = i.val) :
    exec (.getSteer tag [b]) s = .next (s.answered { kind := 0x09, tag := tag } .ok
      (b :: (s.steer i).bytes ++ [numberByte (s.pairedLine i)])).transmit :=
  congrArg Host.Outcome.next <| by
    rw [takeOrder_of_admits h]
    simp only [getSteerOrder, sourceNo?_of_eq hb, enterWindow_reply]
    rfl

theorem exec_getClass_range {s : State} (h : s.admits) (tag : Byte) {b : Byte} (hb : 16 ≤ b.toNat) :
    exec (.getClass tag [b]) s = .next (s.answered { kind := 0x0B, tag := tag } .range [b]).transmit :=
  congrArg Host.Outcome.next <| by
    simp only [takeOrder_of_admits h, getClassOrder, classNo?_of_le hb, enterWindow_reply]

/-- GET-CLASS of a class reads its record, its notice and its sets (R56). -/
theorem exec_getClass_class {s : State} (h : s.admits) (tag : Byte) {b : Byte} {c : ClassNo} (hb : b.toNat = c.val) :
    exec (.getClass tag [b]) s = .next (s.answered { kind := 0x0B, tag := tag } .ok (b :: s.classFields c)).transmit :=
  congrArg Host.Outcome.next <| by
    rw [takeOrder_of_admits h]
    simp only [getClassOrder, classNo?_of_eq hb, enterWindow_reply]
    rfl

/-- A timer's field: 0 when it is absent or reached, else its whole milliseconds, rounded up (R56). -/
theorem remainingField_eq (now : Time) (timer : Option Time) :
    remainingField now timer = match timer with
      | some t => if reached now t then 0 else BitVec.ofNat 16 (((t - now).toNat + 999) / 1000)
      | none => 0 := by
  cases timer <;> rfl

/-- Settles O32: both orders are admitted and do nothing but answer (`exec_getSteer_source`, `exec_getClass_class` and their RANGE
cases); the paired line and the two source sets are then read as the statement spells them. -/
theorem getSteerAndGetClassAreReads : Obligations.GetSteerAndGetClassAreReads := by
  intro tag b s h
  refine ⟨exec_getSteer_range h tag, ?paired, ?unpaired, exec_getClass_range h tag, ?getClass⟩
  case paired =>
    intro i g hb hg hleast
    rw [exec_getSteer_source h tag hb, pairedLine_eq_some_of_least hg hleast]
    rfl
  case unpaired =>
    intro i hb hnone
    rw [exec_getSteer_source h tag hb, pairedLine_eq_none_of_forall hnone]
    rfl
  case getClass =>
    intro c hb
    rw [exec_getClass_class h tag hb]
    simp only [State.classFields, members_contains, contributors_contains, remainingField_eq, ClassSettings.bytes,
      ClassRecord.presence, List.append_assoc, List.cons_append, List.nil_append] <;> rfl

end Sys2Proof.Proofs

/-! ## Orders on the classes

SET-CLASS, MASK and CLEAR-ALARM: the bytes of a class setting record, what new settings make of a class record, and what each of the
three orders does once it is admitted. -/

namespace Sys2Proof.Proofs

open Sys2Proof Sys2Proof.Machine Sys2Proof.Laws

/-! ### Flags and 16-bit fields as received -/

theorem eq_zero_or_eq_one_of_toNat_le_one {b : Byte} (h : b.toNat ≤ 1) : b = 0 ∨ b = 1 := by bv_omega

theorem flag?_of_le {b : Byte} (h : b.toNat ≤ 1) : flag? b = some (b == 1) := by
  obtain rfl | rfl := eq_zero_or_eq_one_of_toNat_le_one h <;> rfl

theorem flag?_of_lt {b : Byte} (h : 1 < b.toNat) : flag? b = none := by
  have h0 : b ≠ 0 := by bv_omega
  have h1 : b ≠ 1 := by bv_omega
  simp only [flag?, if_neg h0, if_neg h1]

/-- A flag received is sent back as it came (R163). -/
theorem flagByte_beq_one {b : Byte} (h : b.toNat ≤ 1) : flagByte (b == 1) = b := by
  obtain rfl | rfl := eq_zero_or_eq_one_of_toNat_le_one h <;> rfl

/-- A 16-bit field received is sent back as it came (R163). -/
@[simp] theorem be16_append (hi lo : Byte) : be16 (hi ++ lo) = [hi, lo] := by
  simp only [be16, BitVec.extractLsb'_append_eq_left, BitVec.extractLsb'_append_eq_right]

theorem ofBe16_eq_zero_iff (hi lo : Byte) : ofBe16 hi lo = 0 ↔ hi = 0 ∧ lo = 0 := by
  refine ⟨fun h => ?_, fun ⟨hhi, hlo⟩ => by subst hhi hlo; rfl⟩
  have hbytes : [hi, lo] = [0, 0] := calc
    [hi, lo] = be16 (ofBe16 hi lo) := (be16_append hi lo).symm
    _ = be16 0 := by rw [h]
    _ = [0, 0] := rfl
  simpa using hbytes

/-! ### The class setting record -/

/-- The first check of R53 fails on a mask or critical setting that is no flag, or on a deadline of 0. -/
theorem classSettings?_eq_none {m k d1 d0 : Byte} (l1 l0 : Byte)
    (h : 1 < m.toNat ∨ 1 < k.toNat ∨ (d1 = 0 ∧ d0 = 0)) : classSettings? m k d1 d0 l1 l0 = none := by
  obtain hm | hk | hd := h
  · simp only [classSettings?, flag?_of_lt hm]
  · simp only [classSettings?, flag?_of_lt hk]
    cases flag? m <;> rfl
  · have hzero := (ofBe16_eq_zero_iff d1 d0).mpr hd
    simp only [classSettings?, if_pos hzero]
    split <;> rfl

theorem classSettings?_eq_some {m k d1 d0 : Byte} (l1 l0 : Byte) (hm : m.toNat ≤ 1) (hk : k.toNat ≤ 1)
    (hd : d1 ≠ 0 ∨ d0 ≠ 0) :
    classSettings? m k d1 d0 l1 l0
      = some { masked := m == 1, critical := k == 1, deadline := d1 ++ d0, limit := l1 ++ l0 } := by
  have hne : ¬ ofBe16 d1 d0 = 0 := by rw [ofBe16_eq_zero_iff]; tauto
  simp only [classSettings?, flag?_of_le hm, flag?_of_le hk, if_neg hne]
  rfl

/-- A setting record received is sent back as it came (R166). -/
theorem settings_bytes_of_received {m k : Byte} (d1 d0 l1 l0 : Byte) (hm : m.toNat ≤ 1) (hk : k.toNat ≤ 1) :
    ({ masked := m == 1, critical := k == 1, deadline := d1 ++ d0, limit := l1 ++ l0 } : ClassSettings).bytes
      = [m, k, d1, d0, l1, l0] := by
  simp only [ClassSettings.bytes, flagByte_beq_one hm, flagByte_beq_one hk, be16_append, List.cons_append, List.nil_append]

/-- The response to new settings by field: only the settings, the deadline timer and the late flag can change (R54). -/
theorem withSettings_eq (r : ClassRecord) (x : ClassSettings) (now : Time) :
    r.withSettings x now = { r with
      settings := x
      deadlineTimer :=
        if x.critical = true ∧ r.settings.critical = false ∧ (r.state = .pending ∨ r.state = .held) then
          some (now + millis x.deadline)
        else if x.critical = false ∧ r.settings.critical = true then none else r.deadlineTimer
      late :=
        if (x.critical = true ∧ r.settings.critical = false ∧ (r.state = .pending ∨ r.state = .held))
          ∨ (x.critical = false ∧ r.settings.critical = true) then false else r.late } := by
  unfold ClassRecord.withSettings
  cases hnew : x.critical <;> cases hold : r.settings.critical
  case true.false => by_cases hwaits : r.state = .pending ∨ r.state = .held <;> simp [hwaits]
  all_goals simp

/-! ### An answer that the dispatch arbiter follows -/

/-- Entering the window and joining the answer queue are together `answered`; the dispatch arbiter, ATTN and the transmitter arbiter
follow (R63, R143, R126, R127). -/
theorem enterWindow_replyAndDispatch (s : State) (o : Order) (r : Result) (fields : List Byte) :
    (s.enterWindow o).replyAndDispatch o r fields = ((s.answered o r fields).dispatch.evalAttn).transmitJoined := rfl

/-! ### What entering the order window leaves as it is -/

@[simp] theorem enterWindow_klass (s : State) (o : Order) (c : ClassNo) : (s.enterWindow o).klass c = s.klass c := rfl

@[simp] theorem enterWindow_noticeOf (s : State) (o : Order) (c : ClassNo) : (s.enterWindow o).noticeOf c = s.noticeOf c := rfl

@[simp] theorem enterWindow_maskFields (s : State) (o : Order) : (s.enterWindow o).maskFields = s.maskFields := rfl

@[simp] theorem enterWindow_alarmFields (s : State) (o : Order) : (s.enterWindow o).alarmFields = s.alarmFields := rfl

@[simp] theorem enterWindow_anyLate (s : State) (o : Order) : (s.enterWindow o).anyLate = s.anyLate := rfl

/-- Evaluating ATTN changes no mask setting. -/
@[simp] theorem evalAttn_maskFields (s : State) : s.evalAttn.maskFields = s.maskFields := rfl

theorem setKlass_enterWindow (s : State) (o : Order) (c : ClassNo) (r : ClassRecord) :
    (s.enterWindow o).setKlass c r = (s.setKlass c r).enterWindow o := rfl

theorem setMasks_enterWindow (s : State) (o : Order) (selected : Half) (v : Bool) :
    (s.enterWindow o).setMasks selected v = (s.setMasks selected v).enterWindow o := rfl

theorem evalAttn_enterWindow (s : State) (o : Order) : (s.enterWindow o).evalAttn = s.evalAttn.enterWindow o := rfl

/-! ### SET-CLASS -/

/-- SET-CLASS of its seven bytes, admitted. -/
theorem exec_setClass {s : State} (h : s.admits) (tag b m k d1 d0 l1 l0 : Byte) :
    exec (.setClass tag [b, m, k, d1, d0, l1, l0]) s
      = .next (setClassOrder { kind := 0x0A, tag := tag } b (classSettings? m k d1 d0 l1 l0)
          (s.enterWindow { kind := 0x0A, tag := tag })) :=
  congrArg Host.Outcome.next <| by rw [takeOrder_of_admits h]

/-- A class number over 15 is answered RANGE with the factory settings (R53). -/
theorem setClassOrder_range_class (s : State) (o : Order) {b : Byte} (hb : 16 ≤ b.toNat) (x : Option ClassSettings) :
    setClassOrder o b x (s.enterWindow o) = (s.answered o .range (b :: factorySettings.bytes)).transmit := by
  simp only [setClassOrder, classNo?_of_le hb, enterWindow_reply]

/-- Settings out of range are answered RANGE with the standing ones (R53). -/
theorem setClassOrder_range_settings (s : State) (o : Order) {b : Byte} {c : ClassNo} (hb : b.toNat = c.val) :
    setClassOrder o b none (s.enterWindow o) = (s.answered o .range (b :: (s.klass c).settings.bytes)).transmit := by
  simp only [setClassOrder, classNo?_of_eq hb, enterWindow_klass, enterWindow_reply]

/-- A class with a notice is answered IN-USE (R53). -/
theorem setClassOrder_inUse {s : State} (o : Order) {b : Byte} {c : ClassNo} (hb : b.toNat = c.val) (x : ClassSettings)
    (hflight : (s.klass c).state.inFlight = true) :
    setClassOrder o b (some x) (s.enterWindow o)
      = (s.answered o .inUse (b :: (s.klass c).settings.bytes ++ [(s.klass c).state.code, s.noticeOf c])).transmit := by
  simp only [setClassOrder, classNo?_of_eq hb, enterWindow_klass, hflight, if_true, enterWindow_noticeOf, enterWindow_reply]

/-- A class without a notice takes the new settings (R54). -/
theorem setClassOrder_ok {s : State} (o : Order) {b : Byte} {c : ClassNo} (hb : b.toNat = c.val) (x : ClassSettings)
    (hfree : (s.klass c).state.inFlight = false) :
    setClassOrder o b (some x) (s.enterWindow o)
      = (((s.setKlass c ((s.klass c).withSettings x s.time)).answered o .ok (b :: x.bytes)).dispatch.evalAttn).transmitJoined := by
  simp only [setClassOrder, classNo?_of_eq hb, enterWindow_klass, hfree, Bool.false_eq_true, if_false, enterWindow_frame,
    setKlass_enterWindow, enterWindow_replyAndDispatch]

/-- Settles O36: the payload is read as a setting record (`classSettings?_eq_none`, `classSettings?_eq_some`), the order then does
what the four `setClassOrder` lemmas say, and `withSettings_eq` gives the accepted record field by field. -/
theorem setClassFollowsR53AndR54 : Obligations.SetClassFollowsR53AndR54 := by
  intro tag b m k d1 d0 l1 l0 s h
  dsimp only
  rw [exec_setClass h]
  refine ⟨fun hb => ?rangeClass, fun c hb => ⟨fun hbad => ?rangeSettings, fun hm hk hd hflight => ?inUse,
    fun hm hk hd hfree => ?ok⟩⟩
  case rangeClass => exact congrArg Host.Outcome.next (setClassOrder_range_class s _ hb _)
  case rangeSettings => rw [classSettings?_eq_none l1 l0 hbad, setClassOrder_range_settings s _ hb]
  case inUse => rw [classSettings?_eq_some l1 l0 hm hk hd, setClassOrder_inUse _ hb _ hflight]
  case ok =>
    rw [classSettings?_eq_some l1 l0 hm hk hd, setClassOrder_ok _ hb _ hfree, withSettings_eq,
      settings_bytes_of_received d1 d0 l1 l0 hm hk]
    rfl

/-! ### MASK -/

/-- A MASK frame of three bytes, admitted; either row takes any action (log 18). -/
theorem exec_maskSet {s : State} (h : s.admits) (tag hi lo action : Byte) :
    exec (.maskSet tag [hi, lo, action]) s
      = .next (maskOrder { kind := 0x0C, tag := tag } (ofBe16 hi lo) action (s.enterWindow { kind := 0x0C, tag := tag })) :=
  congrArg Host.Outcome.next <| takeOrder_of_admits h _ _ _ _

/-- The two rows of MASK are one arrival (log 18). -/
theorem exec_maskClear_eq_exec_maskSet (s : State) (tag : Byte) (payload : List Byte) :
    exec (.maskClear tag payload) s = exec (.maskSet tag payload) s := rfl

/-- SET masks the selected classes, and ATTN is evaluated before the answer (R44, R41). -/
theorem maskOrder_set (s : State) (o : Order) (selected : Half) :
    maskOrder o selected 1 (s.enterWindow o)
      = ((s.setMasks selected true).evalAttn.answered o .ok (s.setMasks selected true).maskFields).transmit := by
  simp only [maskOrder, if_true, setMasks_enterWindow, evalAttn_enterWindow, enterWindow_maskFields, evalAttn_maskFields,
    enterWindow_reply]

/-- CLEAR unmasks the selected classes, and the dispatch arbiter runs after the answer (R44, R41, R63). -/
theorem maskOrder_clear (s : State) (o : Order) (selected : Half) :
    maskOrder o selected 2 (s.enterWindow o)
      = (((s.setMasks selected false).answered o .ok (s.setMasks selected false).maskFields).dispatch.evalAttn).transmitJoined := by
  have h21 : ¬ (2 : Byte) = 1 := by decide
  simp only [maskOrder, if_neg h21, if_true, setMasks_enterWindow, enterWindow_maskFields, enterWindow_replyAndDispatch]

/-- Any other action is answered RANGE (R44). -/
theorem maskOrder_range (s : State) (o : Order) (selected : Half) {action : Byte} (h1 : action ≠ 1) (h2 : action ≠ 2) :
    maskOrder o selected action (s.enterWindow o) = (s.answered o .range s.maskFields).transmit := by
  simp only [maskOrder, if_neg h1, if_neg h2, enterWindow_maskFields, enterWindow_reply]

/-- Settles O37: both rows are one MASK arrival, which does what the three `maskOrder` lemmas say for its action. -/
theorem maskActsOnTheSelectedClasses : Obligations.MaskActsOnTheSelectedClasses := by
  intro tag hi lo s h masked fields
  have hmasked : ∀ v, s.setMasks (ofBe16 hi lo) v = masked v := fun _ => rfl
  have hfields : ∀ u : State, u.maskFields = fields u := fun _ => rfl
  refine ⟨?set, ?clear, fun a h1 h2 row hrow => ?range⟩
  case set => rw [exec_maskSet h, maskOrder_set, hmasked, hfields]
  case clear => rw [exec_maskClear_eq_exec_maskSet, exec_maskSet h, maskOrder_clear, hmasked, hfields]
  case range =>
    have hsame : exec row s = exec (.maskSet tag [hi, lo, a]) s := by
      obtain rfl | rfl : row = .maskSet tag [hi, lo, a] ∨ row = .maskClear tag [hi, lo, a] := by simpa using hrow
      · rfl
      · exact exec_maskClear_eq_exec_maskSet s tag _
    rw [hsame, exec_maskSet h, maskOrder_range s _ _ h1 h2, hfields]

/-! ### CLEAR-ALARM -/

theorem anyLate_eq_true_of_late {s : State} {c : ClassNo} (h : (s.klass c).late = true) : s.anyLate = true :=
  List.any_eq_true.mpr ⟨c, mem_allClasses c, h⟩

theorem anyLate_eq_false_of_forall {s : State} (h : ∀ c, (s.klass c).late = false) : s.anyLate = false := by
  simp [State.anyLate, h]

theorem lateClasses_eq_zero_of_forall {s : State} (h : ∀ c, (s.klass c).late = false) : s.lateClasses = 0 := by
  simp [State.lateClasses, classSet, h]

/-- With ALARM deasserted and no class late the answer carries zeros (R51, R167). -/
theorem alarmFields_eq_zero {s : State} (hlate : ∀ c, (s.klass c).late = false) (halarm : s.alarm = false) :
    s.alarmFields = [0, 0, 0] := by
  simp only [State.alarmFields, lateClasses_eq_zero_of_forall hlate, halarm]
  rfl

/-- CLEAR-ALARM without payload, admitted. -/
theorem exec_clearAlarm {s : State} (h : s.admits) (tag : Byte) :
    exec (.clearAlarm tag []) s
      = .next (clearAlarmOrder { kind := 0x0D, tag := tag } (s.enterWindow { kind := 0x0D, tag := tag })) :=
  congrArg Host.Outcome.next <| by rw [takeOrder_of_admits h]

/-- While a class is late the order is REFUSED (R51). -/
theorem clearAlarmOrder_refused {s : State} (o : Order) (hlate : s.anyLate = true) :
    clearAlarmOrder o (s.enterWindow o) = (s.answered o .refused s.alarmFields).transmit := by
  simp only [clearAlarmOrder, enterWindow_anyLate, hlate, if_true, enterWindow_alarmFields, enterWindow_reply]

/-- With no class late an asserted ALARM is deasserted and ALARM-CLEARED is handed (R51). -/
theorem clearAlarmOrder_asserted {s : State} (o : Order) (hlate : s.anyLate = false) (halarm : s.alarm = true) :
    clearAlarmOrder o (s.enterWindow o)
      = ((({ s with alarm := false } : State).hand { time := s.time, kind := .alarmCleared }).answered o .ok
          ({ s with alarm := false } : State).alarmFields).transmit := by
  simp only [clearAlarmOrder, enterWindow_anyLate, hlate, enterWindow_frame, halarm, Bool.false_eq_true, if_false, if_true]
  rfl

/-- With no class late a deasserted ALARM stays as it is (R51). -/
theorem clearAlarmOrder_deasserted {s : State} (o : Order) (hlate : s.anyLate = false) (halarm : s.alarm = false) :
    clearAlarmOrder o (s.enterWindow o) = (s.answered o .ok s.alarmFields).transmit := by
  simp only [clearAlarmOrder, enterWindow_anyLate, hlate, enterWindow_frame, halarm, Bool.false_eq_true, if_false,
    enterWindow_alarmFields, enterWindow_reply]

/-- Settles O38: the admitted order does what the three `clearAlarmOrder` lemmas say, and with no class late its answer's fields
are zeros (`alarmFields_eq_zero`). -/
theorem clearAlarmFollowsTheLateFlags : Obligations.ClearAlarmFollowsTheLateFlags := by
  intro tag s h
  dsimp only
  rw [exec_clearAlarm h]
  refine ⟨fun c hc => ?refused, fun hlate halarm => ?asserted, fun hlate halarm => ?deasserted⟩
  case refused =>
    rw [clearAlarmOrder_refused _ (anyLate_eq_true_of_late hc)]
    rfl
  case asserted =>
    have hfields : ({ s with alarm := false } : State).alarmFields = [0, 0, 0] := alarmFields_eq_zero hlate rfl
    rw [clearAlarmOrder_asserted _ (anyLate_eq_false_of_forall hlate) halarm, hfields]
    rfl
  case deasserted =>
    rw [clearAlarmOrder_deasserted _ (anyLate_eq_false_of_forall hlate) halarm, alarmFields_eq_zero hlate halarm]

end Sys2Proof.Proofs

/-! ## The orders on a notice

CLAIM, RELEASE and RETURN: the entry that carries a number, what an entry's removal leaves, the three checks before the order's
own effect, and the effects of RELEASE and RETURN. -/

namespace Sys2Proof.Proofs

open Sys2Proof Sys2Proof.Machine Sys2Proof.Laws

/-! ### The entry that carries a number -/

@[simp] theorem enterWindow_entry? (s : State) (o : Order) (n : Byte) : (s.enterWindow o).entry? n = s.entry? n := rfl

/-- No entry is found under 0, which none carries, nor under a number that none carries (R60, R72). -/
theorem entry?_eq_none {s : State} {n : Byte} (h : n = 0 ∨ ∀ e ∈ s.dispatcher.entries, e.number ≠ n) : s.entry? n = none := by
  obtain hzero | hfree := h
  · simp only [State.entry?, if_pos hzero]
  · simpa [State.entry?] using fun _ => hfree

/-- The first entry of the table that carries a number is the one found under it. -/
theorem entry?_eq_some {s : State} {n : Byte} {pre post : List NoticeEntry} {e : NoticeEntry} (h0 : n ≠ 0)
    (hsplit : s.dispatcher.entries = pre ++ e :: post) (hnumber : e.number = n) (hpre : ∀ x ∈ pre, x.number ≠ n) :
    s.entry? n = some e := by
  have hskip : pre.find? (fun x => x.number == n) = none := by simpa using hpre
  simp only [State.entry?, if_neg h0, hsplit, List.find?_append, hskip, Option.none_or, List.find?_cons, hnumber, beq_self_eq_true]

/-! ### The checks of R72 -/

/-- Without a reported loss an order finds the session as it was (R139). -/
theorem takeLoss_enterWindow {s : State} (o : Order) (h : s.flight.loss = none) :
    (s.enterWindow o).takeLoss = s.enterWindow o := by
  simp only [State.takeLoss, enterWindow_frame, h]

/-- The first check: the session is DOWN. -/
theorem settleOrder_noSession {s : State} (o : Order) (n : Byte) (admits : EntryState → Bool)
    (take : NoticeEntry → State → State) (hloss : s.flight.loss = none) (hdown : s.session.up = false) :
    settleOrder o n admits take (s.enterWindow o) = (s.answered o .noSession [n]).transmit := by
  simp only [settleOrder, takeLoss_enterWindow o hloss, enterWindow_frame, hdown, Bool.false_eq_true, if_false, enterWindow_reply]

/-- The second check: no entry carries the number. -/
theorem settleOrder_notFound {s : State} (o : Order) {n : Byte} (admits : EntryState → Bool)
    (take : NoticeEntry → State → State) (hloss : s.flight.loss = none) (hup : s.session.up = true) (hentry : s.entry? n = none) :
    settleOrder o n admits take (s.enterWindow o) = (s.answered o .notFound [n]).transmit := by
  simp only [settleOrder, takeLoss_enterWindow o hloss, enterWindow_frame, hup, if_true, enterWindow_entry?, hentry, enterWindow_reply]

/-- The third check: the order is not for an entry in this state. -/
theorem settleOrder_wrongState {s : State} (o : Order) {n : Byte} {e : NoticeEntry} {admits : EntryState → Bool}
    (take : NoticeEntry → State → State) (hloss : s.flight.loss = none) (hup : s.session.up = true)
    (hentry : s.entry? n = some e) (hstate : admits e.state = false) :
    settleOrder o n admits take (s.enterWindow o)
      = (s.answered o .wrongState [n, byteOf e.cls.val, e.state.code]).transmit := by
  simp only [settleOrder, takeLoss_enterWindow o hloss, enterWindow_frame, hup, if_true, enterWindow_entry?, hentry, hstate,
    Bool.false_eq_true, if_false, enterWindow_reply]

/-- Past the three checks the order takes the entry. -/
theorem settleOrder_take {s : State} (o : Order) {n : Byte} {e : NoticeEntry} {admits : EntryState → Bool}
    (take : NoticeEntry → State → State) (hloss : s.flight.loss = none) (hup : s.session.up = true)
    (hentry : s.entry? n = some e) (hstate : admits e.state = true) :
    settleOrder o n admits take (s.enterWindow o) = take e (s.enterWindow o) := by
  simp only [settleOrder, takeLoss_enterWindow o hloss, enterWindow_frame, hup, if_true, enterWindow_entry?, hentry, hstate]

/-! ### The three orders at their arrival -/

theorem exec_claim {s : State} (h : s.admits) (tag n : Byte) :
    exec (.claim tag [n]) s = .next (settleOrder { kind := 0x05, tag := tag } n (fun x => decide (x = .notified))
      (claimTaken { kind := 0x05, tag := tag }) (s.enterWindow { kind := 0x05, tag := tag })) :=
  congrArg Host.Outcome.next <| takeOrder_of_admits h _ _ _ _

theorem exec_release {s : State} (h : s.admits) (tag n : Byte) :
    exec (.release tag [n]) s = .next (settleOrder { kind := 0x06, tag := tag } n (fun x => decide (x ≠ .notified))
      (releaseTaken { kind := 0x06, tag := tag }) (s.enterWindow { kind := 0x06, tag := tag })) :=
  congrArg Host.Outcome.next <| takeOrder_of_admits h _ _ _ _

theorem exec_returnNotice {s : State} (h : s.admits) (tag n hi lo : Byte) :
    exec (.returnNotice tag [n, hi, lo]) s = .next (settleOrder { kind := 0x07, tag := tag } n (fun x => decide (x = .notified))
      (returnTaken { kind := 0x07, tag := tag } (ofBe16 hi lo)) (s.enterWindow { kind := 0x07, tag := tag })) :=
  congrArg Host.Outcome.next <| takeOrder_of_admits h _ _ _ _

/-- The three refusals of an order that admits none of the entry states in `refused` (R72). -/
theorem settleOrder_refusals {s : State} (o : Order) (n : Byte) {admits : EntryState → Bool} {refused : List EntryState}
    (take : NoticeEntry → State → State) (hloss : s.flight.loss = none) (hrefused : ∀ x ∈ refused, admits x = false) :
    (s.session.up = false → settleOrder o n admits take (s.enterWindow o) = (s.answered o .noSession [n]).transmit)
    ∧ (s.session.up = true → n = 0 ∨ (∀ e ∈ s.dispatcher.entries, e.number ≠ n) →
        settleOrder o n admits take (s.enterWindow o) = (s.answered o .notFound [n]).transmit)
    ∧ (s.session.up = true → n ≠ 0 → ∀ pre e post, s.dispatcher.entries = pre ++ e :: post → e.number = n →
        (∀ y ∈ pre, y.number ≠ n) → e.state ∈ refused →
        settleOrder o n admits take (s.enterWindow o)
          = (s.answered o .wrongState [n, byteOf e.cls.val, e.state.code]).transmit) := by
  refine ⟨?noSession, ?notFound, ?wrongState⟩
  case noSession => exact settleOrder_noSession o n admits take hloss
  case notFound => exact fun hup hnone => settleOrder_notFound o admits take hloss hup (entry?_eq_none hnone)
  case wrongState =>
    exact fun hup h0 pre e post hsplit hnumber hpre hstate =>
      settleOrder_wrongState o take hloss hup (entry?_eq_some h0 hsplit hnumber hpre) (hrefused _ hstate)

/-- Settles O44: each of the three orders is its checks (`exec_claim`, `exec_release`, `exec_returnNotice`), which refuse as
`settleOrder_refusals` says. -/
theorem settlementRefusedChangesNothing : Obligations.SettlementRefusedChangesNothing := by
  intro tag n hi lo s h hloss x hx
  simp only [List.mem_cons, List.not_mem_nil, or_false] at hx
  obtain rfl | rfl | rfl := hx
  case inl => simpa only [exec_claim h, Host.Outcome.next.injEq] using settleOrder_refusals _ n _ hloss (by decide)
  case inr.inl => simpa only [exec_release h, Host.Outcome.next.injEq] using settleOrder_refusals _ n _ hloss (by decide)
  case inr.inr => simpa only [exec_returnNotice h, Host.Outcome.next.injEq] using settleOrder_refusals _ n _ hloss (by decide)

/-! ### The removal of an entry -/

/-- A frame in transmission loses its entry exactly where it is that entry's NOTICE (R68). -/
theorem detach_eq (t : Sending) (n : Byte) :
    (t.detach fun m => m == n) = if t.origin = .notice (some n) then { t with origin := .notice none } else t := by
  obtain ⟨frame, origin, ends⟩ := t
  cases origin with
  | notice entry => cases entry <;> simp [Sending.detach]
  | start | answer _ _ | overdue => simp [Sending.detach]

/-- The one entry that carries a number is what the table loses by that number's removal. -/
theorem filter_number_ne {n : Byte} {pre post : List NoticeEntry} {e : NoticeEntry} (hnumber : e.number = n)
    (hothers : ∀ x ∈ pre ++ post, x.number ≠ n) : ((pre ++ e :: post).filter fun x => x.number != n) = pre ++ post := by
  have hkeep : ((pre ++ post).filter fun x => x.number != n) = pre ++ post := by
    simpa only [List.filter_eq_self, bne_iff_ne] using hothers
  rw [← hkeep]
  simp [hnumber]

/-- The entry goes with its unsent frames, and a frame in transmission reaches no entry any more (R66, R68). -/
theorem removeEntry_eq {s : State} {n : Byte} {pre post : List NoticeEntry} {e : NoticeEntry}
    (hsplit : s.dispatcher.entries = pre ++ e :: post) (hnumber : e.number = n) (hothers : ∀ x ∈ pre ++ post, x.number ≠ n) :
    s.removeEntry n = { s with
      dispatcher := { s.dispatcher with
        entries := pre ++ post, sendList := s.dispatcher.sendList.filter fun f => f.notice != n }
      link := { s.link with tx := s.link.tx.map fun t =>
        if t.origin = .notice (some n) then { t with origin := .notice none } else t } } := by
  simp only [State.removeEntry, State.detach, Dispatcher.dropFrames, Dispatcher.remove, hsplit, filter_number_ne hnumber hothers,
    detach_eq]

/-! ### RELEASE and RETURN of an entry whose state admits them -/

/-- RELEASE of an entry in service asks for the end of its grants (R75). -/
theorem releaseTaken_inService {s : State} (o : Order) {e : NoticeEntry} (hstate : e.state ≠ .expired) :
    releaseTaken o e (s.enterWindow o)
      = ((((((s.ask [.finish e.number]).removeEntry e.number).handNotice .release e.cls e.number none).setKlass e.cls
          ((s.klass e.cls).settleFresh s.time (s.contributors e.cls))).answered o .ok
          [e.number, byteOf e.cls.val]).dispatch.evalAttn).transmitJoined := by
  simp only [releaseTaken, hstate, decide_false, Bool.false_eq_true, if_false]
  rfl

/-- RELEASE of an expired entry asks for nothing: its grants ended at its expiry (R76). -/
theorem releaseTaken_expired {s : State} (o : Order) {e : NoticeEntry} (hstate : e.state = .expired) :
    releaseTaken o e (s.enterWindow o)
      = (((((s.removeEntry e.number).handNotice .releaseLate e.cls e.number none).setKlass e.cls
          ((s.klass e.cls).settleFresh s.time (s.contributors e.cls))).answered o .late
          [e.number, byteOf e.cls.val]).dispatch.evalAttn).transmitJoined := by
  simp only [releaseTaken, hstate, decide_true, if_true]
  rfl

/-- RETURN gives the notice back and hands the hold (R77). -/
theorem returnTaken_eq (s : State) (o : Order) (hold : Half) (e : NoticeEntry) :
    returnTaken o hold e (s.enterWindow o)
      = (((((s.removeEntry e.number).handNotice .returned e.cls e.number (some (hold.zeroExtend 32))).setKlass e.cls
          ((s.klass e.cls).returned hold s.time (s.contributors e.cls))).answered o .ok
          [e.number, byteOf e.cls.val]).dispatch.evalAttn).transmitJoined := rfl

/-- Settles O42: past the checks the order does what the two `releaseTaken` lemmas say, and `removeEntry_eq` spells out what the
entry's removal leaves. -/
theorem releaseEndsTheService : Obligations.ReleaseEndsTheService := by
  intro tag n pre e post s h hloss hup h0 hsplit hnumber hothers hstate
  have hentry : s.entry? n = some e :=
    entry?_eq_some h0 hsplit hnumber fun x hx => hothers x (List.mem_append_left post hx)
  dsimp only
  rw [exec_release h, settleOrder_take _ _ hloss hup hentry (decide_eq_true hstate)]
  subst hnumber
  by_cases hlate : e.state = .expired
  · rw [releaseTaken_expired _ hlate, removeEntry_eq hsplit rfl hothers]
    simp only [hlate, if_true, List.append_nil]
    rfl
  · have hasked : (s.ask [.finish e.number]).dispatcher.entries = pre ++ e :: post := hsplit
    rw [releaseTaken_inService _ hlate, removeEntry_eq hasked rfl hothers]
    simp only [hlate, if_false]
    rfl

/-- Settles O43: past the checks the order does what `returnTaken_eq` says, and `removeEntry_eq` spells out what the entry's removal
leaves. -/
theorem returnGivesTheNoticeBack : Obligations.ReturnGivesTheNoticeBack := by
  intro tag n hi lo pre e post s h hloss hup h0 hsplit hnumber hothers hstate
  have hentry : s.entry? n = some e :=
    entry?_eq_some h0 hsplit hnumber fun x hx => hothers x (List.mem_append_left post hx)
  dsimp only
  rw [exec_returnNotice h, settleOrder_take _ _ hloss hup hentry (decide_eq_true hstate)]
  subst hnumber
  rw [returnTaken_eq, removeEntry_eq hsplit rfl hothers]
  rfl

end Sys2Proof.Proofs

/-! ## The creation of a notice

The order in which the counter tries the numbers, the first of them that is free, and the entry and frame made of it. -/

namespace Sys2Proof.Proofs

open Sys2Proof Sys2Proof.Machine Sys2Proof.Laws

/-! ### The numbers in the counter's order -/

theorem nextNumber_toNat (n : Byte) : (nextNumber n).toNat = n.toNat % 255 + 1 := by
  unfold nextNumber
  split
  next hlast => rw [hlast]; rfl
  next hother => bv_omega

/-- From a number other than 0 the counter goes round 1 to 255 (R65). -/
theorem iterate_nextNumber_toNat {n : Byte} (h : n ≠ 0) (k : Nat) :
    (nextNumber^[k] n).toNat = (n.toNat - 1 + k) % 255 + 1 := by
  induction k with
  | zero =>
    simp only [Function.iterate_zero, id_eq]
    bv_omega
  | succ k ih =>
    rw [Function.iterate_succ_apply', nextNumber_toNat, ih]
    omega

theorem iterate_nextNumber_ne_zero {n : Byte} (h : n ≠ 0) (k : Nat) : nextNumber^[k] n ≠ 0 := by
  intro hzero
  have hvalue := iterate_nextNumber_toNat h k
  rw [hzero] at hvalue
  exact Nat.succ_ne_zero _ hvalue.symm

/-- The first 255 numbers that the counter tries are distinct. -/
theorem iterate_nextNumber_injOn {n : Byte} (h : n ≠ 0) : Set.InjOn (fun k => nextNumber^[k] n) {k | k < 255} := by
  intro j hj k hk hjk
  have hvalue : (nextNumber^[j] n).toNat = (nextNumber^[k] n).toNat := congrArg BitVec.toNat hjk
  simp only [iterate_nextNumber_toNat h, Set.mem_ofPred_eq] at hvalue hj hk
  omega

/-! ### The first free number -/

/-- A table of fewer than 255 entries leaves one of the numbers free that the search can reach: it cannot carry one more distinct
number than it has entries. -/
theorem exists_free_number {entries : List NoticeEntry} {n : Byte} (hn : n ≠ 0) (hlen : entries.length < 255) :
    ∃ k ≤ entries.length, ∀ e ∈ entries, e.number ≠ nextNumber^[k] n := by
  by_contra! hcarried
  have hdistinct : ((List.range (entries.length + 1)).map fun k => nextNumber^[k] n).Nodup := by
    refine List.nodup_range.map_on fun j hj k hk hjk => iterate_nextNumber_injOn hn ?_ ?_ hjk
    · exact (List.mem_range.mp hj).trans_le hlen
    · exact (List.mem_range.mp hk).trans_le hlen
  have hsubset : ((List.range (entries.length + 1)).map fun k => nextNumber^[k] n) ⊆ entries.map (·.number) := by
    intro m hm
    obtain ⟨k, hk, rfl⟩ := List.mem_map.mp hm
    exact List.mem_map.mpr (hcarried k (Nat.lt_succ_iff.mp (List.mem_range.mp hk)))
  have hcount := (List.subperm_of_subset hdistinct hsubset).length_le
  simp only [List.length_map, List.length_range] at hcount
  omega

/-- The search stops at the first number that no entry carries, if it lies within its reach. -/
theorem freeNumber_eq {entries : List NoticeEntry} {fuel k : Nat} {n : Byte} (hk : k ≤ fuel)
    (hfree : ∀ e ∈ entries, e.number ≠ nextNumber^[k] n)
    (hcarried : ∀ j < k, ∃ e ∈ entries, e.number = nextNumber^[j] n) : freeNumber entries fuel n = nextNumber^[k] n := by
  induction k generalizing fuel n with
  | zero =>
    cases fuel with
    | zero => rfl
    | succ fuel =>
      have hnone : (entries.any fun e => e.number == n) = false := by simpa using hfree
      simp only [freeNumber, hnone, Bool.false_eq_true, if_false, Function.iterate_zero, id_eq]
  | succ k ih =>
    obtain ⟨fuel, rfl⟩ : ∃ m, fuel = m + 1 := ⟨fuel - 1, by omega⟩
    have hsome : (entries.any fun e => e.number == n) = true := by simpa using hcarried 0 (Nat.succ_pos k)
    simp only [freeNumber, hsome, if_true]
    exact ih (Nat.le_of_succ_le_succ hk) hfree fun j hj => hcarried (j + 1) (Nat.succ_lt_succ hj)

/-- R65: with room in the table, the number taken is the first from the counter on that no entry carries. -/
theorem freeNumber_spec {entries : List NoticeEntry} {n : Byte} (hn : n ≠ 0) (hlen : entries.length < 255) :
    ∃ k, freeNumber entries entries.length n = nextNumber^[k] n ∧ (∀ e ∈ entries, e.number ≠ nextNumber^[k] n)
      ∧ ∀ j < k, ∃ e ∈ entries, e.number = nextNumber^[j] n := by
  obtain ⟨reach, hreach, hfreeReach⟩ := exists_free_number hn hlen
  have hexists : ∃ k, ∀ e ∈ entries, e.number ≠ nextNumber^[k] n := ⟨reach, hfreeReach⟩
  have hfirst : Nat.find hexists ≤ entries.length := (Nat.find_min' hexists hfreeReach).trans hreach
  have hcarried : ∀ j < Nat.find hexists, ∃ e ∈ entries, e.number = nextNumber^[j] n := by
    intro j hj
    simpa using Nat.find_min hexists hj
  exact ⟨_, freeNumber_eq hfirst (Nat.find_spec hexists) hcarried, Nat.find_spec hexists, hcarried⟩

/-! ### The entry and its first frame -/

/-- An eligible class finds room, so the table is shorter than the round of the numbers (R61). -/
theorem entries_length_lt_of_eligible {s : State} {c : ClassNo} (h : s.eligible c = true) :
    s.dispatcher.entries.length < 255 := by
  simp only [State.eligible, Bool.and_eq_true] at h
  obtain ⟨⟨_, hroom⟩, _⟩ := h
  have hcredit := s.session.credit.isLt
  unfold State.roomFor at hroom
  split at hroom <;> simp only [decide_eq_true_eq] at hroom <;> omega

/-- The flags of a first NOTICE frame are the critical setting in bit 1 (R67, R169). -/
theorem flags_of_first_notice (critical : Bool) : flagByte false ||| (flagByte critical <<< 1) = if critical then 2 else 0 := by
  cases critical <;> rfl

/-- The payload of a class's first NOTICE frame (R67, R169). -/
theorem noticePayload_newEntry (n : Byte) (c : ClassNo) (r : ClassRecord) :
    noticePayload (newEntry n c r) false
      = [n, byteOf c.val, if r.settings.critical then 2 else 0] ++ be32 (r.firstPending.getD 0)
        ++ be32 (sourceSet fun i => decide (i ∈ r.reported)) := by
  simp only [noticePayload, newEntry, flags_of_first_notice, List.contains_eq_mem]

/-- Settles O39: the number is the one of `freeNumber_spec`, within reach because an eligible class finds room; the first frame is
that of `noticePayload_newEntry`. -/
theorem noticeCreationFollowsR64AndR65 : Obligations.NoticeCreationFollowsR64AndR65 := by
  intro c s
  refine ⟨fun hnot => ?left, fun heligible hn => ?created⟩
  case left => simp only [State.dispatchAt, hnot, Bool.false_eq_true, if_false]
  case created =>
    obtain ⟨k, hnumber, hfree, hcarried⟩ := freeNumber_spec hn (entries_length_lt_of_eligible heligible)
    refine ⟨k, _, rfl, iterate_nextNumber_ne_zero hn k, hfree, hcarried, ?_⟩
    simp only [State.dispatchAt, heligible, if_true, State.createNotice, hnumber, noticePayload_newEntry]
    rfl

end Sys2Proof.Proofs

/-! ## The journal's laws

How an unbroken run is cut and joined, and that an arrival and a trim keep the laws of the journal. -/

namespace Sys2Proof.Proofs

open Sys2Proof Sys2Proof.Machine Sys2Proof.Laws

/-! ### Runs of records (R101) -/

/-- A run of records is cut at any place, and joined where one part ends as the other begins. -/
theorem unbroken_append {first next : Seq} {l m : List JournalRecord} :
    unbroken first (l ++ m) next ↔ ∃ middle, unbroken first l middle ∧ unbroken middle m next := by
  induction l generalizing first with
  | nil => simp [unbroken]
  | cons r rest ih => simp [unbroken, ih, and_assoc]

theorem unbroken_singleton {first next : Seq} {r : JournalRecord} :
    unbroken first [r] next ↔ r.seq = first ∧ first + BitVec.ofNat 32 r.coverage = next := Iff.rfl

/-- A run ends where its records' coverages, one after another, lead from its beginning. -/
theorem next_eq_of_unbroken {first next : Seq} {l : List JournalRecord} (h : unbroken first l next) :
    next = first + BitVec.ofNat 32 (totalCoverage l) := by
  induction l generalizing first with
  | nil => simpa [totalCoverage, unbroken] using h.symm
  | cons r rest ih =>
    rw [ih h.2, BitVec.add_assoc, ← BitVec.ofNat_add]
    rfl

/-- The run of a journal's records begins at its oldest sequence, wherever it is known to begin. -/
theorem unbroken_oldest {j : Journal} {first : Seq} (h : unbroken first j.records j.next) :
    unbroken j.oldest j.records j.next := by
  obtain ⟨records, next⟩ := j
  cases records with
  | nil => rfl
  | cons r rest =>
    obtain ⟨rfl, hrest⟩ := h
    exact ⟨rfl, hrest⟩

theorem totalCoverage_append (l m : List JournalRecord) : totalCoverage (l ++ m) = totalCoverage l + totalCoverage m := by
  simp [totalCoverage]

@[simp] theorem totalCoverage_singleton (r : JournalRecord) : totalCoverage [r] = r.coverage := by
  simp [totalCoverage]

/-- The length of the covered run is the sum of the coverages: within the bound of R105 the sequence numbers do not wrap round. -/
theorem covered_eq_totalCoverage {j : Journal} (h : JournalLaw j) : j.covered = totalCoverage j.records := by
  obtain ⟨-, hrun, -, hbound, -⟩ := h
  have hnext := next_eq_of_unbroken hrun
  unfold Journal.covered
  bv_omega

/-! ### Coverages (R100, R101) -/

theorem coverage_of_kind_ne_gap {r : JournalRecord} (h : r.body.kind ≠ .gap) : r.coverage = 1 := if_neg h

theorem coverage_of_kind_eq_gap {r : JournalRecord} (h : r.body.kind = .gap) : r.coverage = (r.body.count.getD 0).toNat :=
  if_pos h

@[simp] theorem coverage_gapFor (n : Seq) (b : RecordBody) : ({ seq := n, body := gapFor b } : JournalRecord).coverage = 1 := rfl

/-- A GAP that covers something covers one more after an absorption, as long as its count does not wrap round (R104). -/
theorem coverage_absorb {r : JournalRecord} (hgap : r.body.kind = .gap) (hone : 1 ≤ r.coverage)
    (hbound : r.coverage < 2147483647) : r.absorb.coverage = r.coverage + 1 := by
  have habsorbed : r.absorb.body.kind = .gap := hgap
  rw [coverage_of_kind_eq_gap hgap] at hone hbound ⊢
  rw [coverage_of_kind_eq_gap habsorbed]
  cases hcount : r.body.count with
  | none => simp [hcount] at hone
  | some n =>
    simp only [JournalRecord.absorb, hcount, Option.map_some, Option.getD_some] at hbound ⊢
    bv_omega

/-! ### What keeps the laws -/

/-- A record of coverage 1 joins a journal that has room for it: up to 126 records any, as the 128th a GAP (R104, R105). -/
theorem journalLaw_append {j : Journal} {b : RecordBody} (h : JournalLaw j) (hroom : j.covered < 2147483647)
    (hone : ({ seq := j.next, body := b } : JournalRecord).coverage = 1)
    (hplace : j.records.length ≤ 126 ∨ j.records.length = 127 ∧ b.kind = .gap) : JournalLaw (j.append b) := by
  rw [covered_eq_totalCoverage h] at hroom
  obtain ⟨-, hrun, hcovers, -, -⟩ := h
  refine ⟨?length, ?run, ?covers, ?bound, ?last⟩
  case length =>
    simp only [Journal.append, List.length_append, List.length_singleton]
    omega
  case run =>
    refine unbroken_oldest (first := j.oldest) (unbroken_append.mpr ⟨j.next, hrun, unbroken_singleton.mpr ⟨rfl, ?_⟩⟩)
    rw [hone]
    rfl
  case covers =>
    intro r hr
    obtain hold | rfl := List.mem_append.mp hr |>.imp_right List.mem_singleton.mp
    · exact hcovers r hold
    · exact hone.ge
  case bound =>
    simp only [Journal.append, totalCoverage_append, totalCoverage_singleton, hone]
    omega
  case last =>
    intro r hlength hlast
    simp only [Journal.append, List.length_append, List.length_singleton] at hlength
    obtain rfl : ({ seq := j.next, body := b } : JournalRecord) = r := by simpa [Journal.append] using hlast
    exact (hplace.resolve_left (by omega)).2

/-- The newest record, a GAP, takes one more number (R104). -/
theorem journalLaw_absorb {j : Journal} {older : List JournalRecord} {r : JournalRecord} (h : JournalLaw j)
    (hroom : j.covered < 2147483647) (hrecords : j.records = older ++ [r]) (hgap : r.body.kind = .gap) :
    JournalLaw { records := older ++ [r.absorb], next := j.next + 1 } := by
  rw [covered_eq_totalCoverage h] at hroom
  obtain ⟨hlength, hrun, hcovers, -, -⟩ := h
  rw [hrecords] at hlength hrun hcovers hroom
  rw [totalCoverage_append, totalCoverage_singleton] at hroom
  have hone : 1 ≤ r.coverage := hcovers r (by simp)
  have habsorb : r.absorb.coverage = r.coverage + 1 := coverage_absorb hgap hone (by omega)
  refine ⟨?length, ?run, ?covers, ?bound, ?last⟩
  case length => simpa using hlength
  case run =>
    obtain ⟨middle, holder, hnewest⟩ := unbroken_append.mp hrun
    obtain ⟨hseq, hnext⟩ := unbroken_singleton.mp hnewest
    refine unbroken_oldest (first := j.oldest) (unbroken_append.mpr ⟨middle, holder, unbroken_singleton.mpr ⟨hseq, ?_⟩⟩)
    rw [habsorb, ← hnext, BitVec.ofNat_add, BitVec.add_assoc]
    rfl
  case covers =>
    intro x hx
    obtain hold | rfl := List.mem_append.mp hx |>.imp_right List.mem_singleton.mp
    · exact hcovers x (List.mem_append_left _ hold)
    · omega
  case bound =>
    simp only [totalCoverage_append, totalCoverage_singleton, habsorb]
    omega
  case last =>
    intro x _ hlast
    obtain rfl : r.absorb = x := by simpa using hlast
    exact hgap

/-- An arrival that is no GAP keeps the laws of the journal, whichever of the four things becomes of it (R104, R105). -/
theorem journalLaw_arrive {j : Journal} {b : RecordBody} (h : JournalLaw j) (hb : b.kind ≠ .gap) : JournalLaw (j.arrive b) := by
  obtain ⟨-, heq⟩ | ⟨hroom, hlength, heq⟩ | ⟨hroom, -, older, r, hrecords, hgap, heq⟩
    | ⟨hroom, hlength, older, r, hrecords, hgap, heq⟩ := arrive_cases j b
  all_goals rw [heq]
  case inl => exact h
  case inr.inl => exact journalLaw_append h hroom (coverage_of_kind_ne_gap hb) (.inl hlength)
  case inr.inr.inl => exact journalLaw_absorb h hroom hrecords hgap
  case inr.inr.inr =>
    have ⟨hmost, _, _, _, hlast⟩ := h
    have hnot : j.records.length ≠ 128 := fun hfull => hgap (hlast r hfull (by simp [hrecords]))
    exact journalLaw_append h hroom (coverage_gapFor _ _) (.inr ⟨by omega, rfl⟩)

/-- The newest records of a lawful journal are lawful without the older ones. -/
theorem journalLaw_of_suffix {j : Journal} {l : List JournalRecord} (h : JournalLaw j) (hl : l <:+ j.records) :
    JournalLaw { j with records := l } := by
  obtain ⟨hlength, hrun, hcovers, hbound, hlast⟩ := h
  obtain ⟨older, holder⟩ := hl
  rw [← holder] at hlength hrun hcovers hbound hlast
  rw [List.length_append] at hlength
  obtain ⟨middle, -, hkept⟩ := unbroken_append.mp hrun
  refine ⟨?length, unbroken_oldest hkept, fun r hr => hcovers r (List.mem_append_right _ hr), ?bound, ?last⟩
  case length => exact (Nat.le_add_left _ _).trans hlength
  case bound => exact (Nat.le_add_left _ _).trans (totalCoverage_append older l ▸ hbound)
  case last =>
    intro r (hfull : l.length = 128) (hr : l.getLast? = some r)
    refine hlast r ?_ (by simp [List.getLast?_append, hr])
    rw [List.length_append]
    omega

theorem journalLaw_trimTo {j : Journal} (h : JournalLaw j) (limit : Seq) : JournalLaw (j.trimTo limit) := by
  unfold Journal.trimTo
  split
  · exact journalLaw_of_suffix h (List.dropWhile_suffix _)
  all_goals exact h

/-- The journal after POWER-ON (R98, R112). -/
theorem journalLaw_empty (next : Seq) : JournalLaw { records := [], next := next } := by
  simp [JournalLaw, unbroken, Journal.oldest, totalCoverage]

end Sys2Proof.Proofs

/-! ## READ-JOURNAL and TRIM-JOURNAL

Where a position falls, the records that each of the two orders finds there, and the answers. -/

namespace Sys2Proof.Proofs

open Sys2Proof Sys2Proof.Machine Sys2Proof.Laws

/-! ### Where a position falls (R102) -/

theorem place_eq_within {j : Journal} {g : Seq} (h : (g - j.oldest).toNat < (j.next - j.oldest).toNat) : j.place g = .within :=
  if_pos h

theorem place_eq_atOrPastNext {j : Journal} {g : Seq} (h : ¬ (g - j.oldest).toNat < (j.next - j.oldest).toNat)
    (hpast : (g - j.next).toNat < 2147483648) : j.place g = .atOrPastNext :=
  (if_neg h).trans (if_pos hpast)

theorem place_eq_older {j : Journal} {g : Seq} (h : ¬ (g - j.oldest).toNat < (j.next - j.oldest).toNat)
    (holder : 2147483648 ≤ (g - j.next).toNat) : j.place g = .older :=
  (if_neg h).trans (if_neg (Nat.not_lt.mpr holder))

/-! ### The records found there -/

/-- What is dropped is exactly the part before the first element that the test refuses. -/
theorem dropWhile_append_eq {α : Type} {p : α → Bool} {dropped kept : List α} (hdropped : ∀ x ∈ dropped, p x = true)
    (hkept : ∀ x, kept.head? = some x → p x = false) : (dropped ++ kept).dropWhile p = kept := by
  rw [List.dropWhile_append_of_pos hdropped]
  cases kept with
  | nil => rfl
  | cons x rest => exact List.dropWhile_cons_of_neg (Bool.eq_false_iff.mp (hkept x rfl))

/-- A position within the journal reads from the first record whose coverage includes it (R108). -/
theorem readFrom_within {j : Journal} {g : Seq} {older newer : List JournalRecord} {r : JournalRecord}
    (h : j.place g = .within) (hrecords : j.records = older ++ r :: newer) (hr : (g - r.seq).toNat < r.coverage)
    (holder : ∀ x ∈ older, x.coverage ≤ (g - x.seq).toNat) : j.readFrom g = (r :: newer).take 3 := by
  simp only [Journal.readFrom, h, hrecords]
  rw [dropWhile_append_eq]
  · intro x hx
    simpa [JournalRecord.covers] using holder x hx
  · rintro _ ⟨⟩
    simpa [JournalRecord.covers] using hr

theorem readFrom_atOrPastNext {j : Journal} {g : Seq} (h : j.place g = .atOrPastNext) : j.readFrom g = [] := by
  simp only [Journal.readFrom, h]

theorem readFrom_older {j : Journal} {g : Seq} (h : j.place g = .older) : j.readFrom g = j.records.take 3 := by
  simp only [Journal.readFrom, h]

/-- A limit within the journal removes the records whose whole coverage ends by it, up to the first whose does not (R109). -/
theorem trimTo_within {j : Journal} {limit : Seq} {removed kept : List JournalRecord} (h : j.place limit = .within)
    (hrecords : j.records = removed ++ kept)
    (hremoved : ∀ r ∈ removed, (r.seq - j.oldest).toNat + r.coverage ≤ (limit - j.oldest).toNat + 1)
    (hkept : ∀ r, kept.head? = some r → ¬ (r.seq - j.oldest).toNat + r.coverage ≤ (limit - j.oldest).toNat + 1) :
    j.trimTo limit = { j with records := kept } := by
  simp only [Journal.trimTo, h]
  rw [hrecords, dropWhile_append_eq]
  · exact fun r hr => decide_eq_true (hremoved r hr)
  · exact fun r hr => decide_eq_false (hkept r hr)

theorem trimTo_older {j : Journal} {limit : Seq} (h : j.place limit = .older) : j.trimTo limit = j := by
  simp only [Journal.trimTo, h]

/-! ### The answers -/

/-- The marker is set for an older position alone (R108, R167). -/
theorem readMarker_eq (older : Bool) (count : Nat) : readMarker older count = (if older then 0x80 else 0) ||| byteOf count := by
  cases older <;> rfl

/-- READ-JOURNAL at a position, admitted: an answer and nothing else (R107). -/
theorem exec_readJournal {s : State} (h : s.admits) (tag b3 b2 b1 b0 : Byte) :
    exec (.readJournal tag [b3, b2, b1, b0]) s
      = .next (s.answered { kind := 0x11, tag := tag } .ok (s.journal.readFields (b3 ++ b2 ++ b1 ++ b0))).transmit :=
  congrArg Host.Outcome.next <| by
    rw [takeOrder_of_admits h]
    rfl

/-- TRIM-JOURNAL to a limit, admitted: its order on the state with the order in the window (R109). -/
theorem exec_trimJournal {s : State} (h : s.admits) (tag b3 b2 b1 b0 : Byte) :
    exec (.trimJournal tag [b3, b2, b1, b0]) s
      = .next (trimOrder { kind := 0x12, tag := tag } (b3 ++ b2 ++ b1 ++ b0) (s.enterWindow { kind := 0x12, tag := tag })) :=
  congrArg Host.Outcome.next <| takeOrder_of_admits h _ _ _ _

/-- A limit at or past the next sequence is answered RANGE (R109). -/
theorem trimOrder_range {s : State} (o : Order) {limit : Seq} (h : s.journal.place limit = .atOrPastNext) :
    trimOrder o limit (s.enterWindow o) = (s.answered o .range s.journal.trimFields).transmit :=
  if_pos h

/-- Any other limit trims the journal and is answered with what is left (R109). -/
theorem trimOrder_ok {s : State} (o : Order) {limit : Seq} (h : s.journal.place limit ≠ .atOrPastNext) :
    trimOrder o limit (s.enterWindow o)
      = (({ s with journal := s.journal.trimTo limit } : State).answered o .ok (s.journal.trimTo limit).trimFields).transmit :=
  if_neg h

/-- Settles O51: the order is the answer of `exec_readJournal`, and the place of the position says which records it holds. -/
theorem readJournalReturnsUpToThreeRecords : Obligations.ReadJournalReturnsUpToThreeRecords := by
  intro tag b3 b2 b1 b0 s h
  simp only [exec_readJournal h, Journal.readFields, readMarker_eq]
  refine ⟨?within, ?atOrPastNext, ?older⟩
  case within =>
    intro hwithin older r newer hrecords hr holder
    have hplace := place_eq_within hwithin
    simp [hplace, readFrom_within hplace hrecords hr holder]
  case atOrPastNext =>
    intro hnot hpast
    have hplace := place_eq_atOrPastNext hnot hpast
    simp [hplace, readFrom_atOrPastNext hplace]
  case older =>
    intro hnot holder
    have hplace := place_eq_older hnot holder
    simp [hplace, readFrom_older hplace]

/-- Settles O52: the place of the limit decides between `trimOrder_range` and `trimOrder_ok`, and what `trimTo` leaves. -/
theorem trimJournalRemovesWholeCoverages : Obligations.TrimJournalRemovesWholeCoverages := by
  intro tag b3 b2 b1 b0 s h
  simp only [exec_trimJournal h]
  refine ⟨?atOrPastNext, ?older, ?within⟩
  case atOrPastNext =>
    intro hnot hpast
    rw [trimOrder_range _ (place_eq_atOrPastNext hnot hpast)]
    rfl
  case older =>
    intro hnot holder
    have hplace := place_eq_older hnot holder
    rw [trimOrder_ok _ (by simp [hplace]), trimTo_older hplace]
    rfl
  case within =>
    intro hwithin removed kept hrecords hremoved hkept
    have hplace := place_eq_within hwithin
    rw [trimOrder_ok _ (by simp [hplace]), trimTo_within hplace hrecords hremoved hkept]
    rfl

end Sys2Proof.Proofs

/-! ## The records that the blocks hand over

No operation hands the journal a GAP, which the journal alone makes (R100). -/

namespace Sys2Proof.Proofs

open Sys2Proof Sys2Proof.Machine Sys2Proof.Laws

/-- None of the records is a GAP. -/
def NoGap (l : List RecordBody) : Prop := ∀ b ∈ l, b.kind ≠ .gap

@[simp] theorem noGap_nil : NoGap [] := by simp [NoGap]

theorem noGap_append (l m : List RecordBody) : NoGap (l ++ m) ↔ NoGap l ∧ NoGap m := List.forall_mem_append

@[simp] theorem noGap_singleton (b : RecordBody) : NoGap [b] ↔ b.kind ≠ .gap := List.forall_mem_singleton

/-- The law of the journal depends on the journal and the records handed to it, and on nothing else. -/
theorem recordsLaw_iff (s : State) : RecordsLaw s ↔ JournalLaw s.journal ∧ NoGap s.flight.arrivals := Iff.rfl

/-! ### Records handed one at a time -/

theorem noGap_hand (s : State) (b : RecordBody) :
    NoGap (s.hand b).flight.arrivals ↔ NoGap s.flight.arrivals ∧ b.kind ≠ .gap := by
  rw [← noGap_singleton, ← noGap_append]
  rfl

@[simp] theorem noGap_hand_of_ne {b : RecordBody} (h : b.kind ≠ .gap) (s : State) :
    NoGap (s.hand b).flight.arrivals ↔ NoGap s.flight.arrivals := by simp [noGap_hand, h]

@[simp] theorem noGap_handNotice {k : RecordKind} (h : k ≠ .gap) (s : State) (c : ClassNo) (n : Byte) (x : Option (BitVec 32)) :
    NoGap (s.handNotice k c n x).flight.arrivals ↔ NoGap s.flight.arrivals := noGap_hand_of_ne h s

@[simp] theorem noGap_handCount {k : RecordKind} (h : k ≠ .gap) (s : State) (x : BitVec 32) :
    NoGap (s.handCount k x).flight.arrivals ↔ NoGap s.flight.arrivals := noGap_hand_of_ne h s

@[simp] theorem noGap_handSource {k : RecordKind} (h : k ≠ .gap) (s : State) (i : SourceNo) (x : Option (BitVec 32)) :
    NoGap (s.handSource i k x).flight.arrivals ↔ NoGap s.flight.arrivals := by
  unfold State.handSource
  split
  · exact noGap_hand_of_ne h s
  · rfl

@[simp] theorem noGap_handGrantEnd (s : State) (i : SourceNo) (g : LineNo) :
    NoGap (s.handGrantEnd i g).flight.arrivals ↔ NoGap s.flight.arrivals := noGap_hand_of_ne (by simp) s

/-! ### Events on a source -/

@[simp] theorem assertKind_ne_gap (forced : Bool) : assertKind forced ≠ .gap := by cases forced <;> simp [assertKind]

@[simp] theorem noGap_assertEvent (s : State) (i : SourceNo) (f : Bool) :
    NoGap (s.assertEvent i f).flight.arrivals ↔ NoGap s.flight.arrivals := by
  unfold State.assertEvent
  dsimp only
  split <;> simp

@[simp] theorem noGap_deriveLive (s : State) (i : SourceNo) (f : Bool) :
    NoGap (s.deriveLive i f).flight.arrivals ↔ NoGap s.flight.arrivals := by
  unfold State.deriveLive
  dsimp only
  split
  · rfl
  · split <;> simp [State.tellWithdrawal]

@[simp] theorem noGap_transition (s : State) (i : SourceNo) (l : Level) :
    NoGap (s.transition i l).flight.arrivals ↔ NoGap s.flight.arrivals := by
  unfold State.transition
  dsimp only
  split
  · simp
  · split <;> simp

@[simp] theorem noGap_rawChange (s : State) (i : SourceNo) (l : Level) :
    NoGap (s.rawChange i l).flight.arrivals ↔ NoGap s.flight.arrivals := by
  unfold State.rawChange
  dsimp only
  split
  · rfl
  · split
    · simp
    · split
      · simp
      · split
        · simp
        · split <;> simp

@[simp] theorem noGap_force (s : State) (i : SourceNo) (a : ForceAction) :
    NoGap (s.force i a).flight.arrivals ↔ NoGap s.flight.arrivals := by
  cases a <;> simp [State.force]

/-! ### Notices -/

@[simp] theorem noGap_createNotice (s : State) (c : ClassNo) :
    NoGap (s.createNotice c).flight.arrivals ↔ NoGap s.flight.arrivals := by
  simp [State.createNotice]

@[simp] theorem noGap_dispatch (s : State) : NoGap s.dispatch.flight.arrivals ↔ NoGap s.flight.arrivals :=
  dispatch_keeps (fun t => NoGap t.flight.arrivals ↔ NoGap s.flight.arrivals)
    (fun t c ht _ => (noGap_createNotice t c).trans ht) Iff.rfl

@[simp] theorem noGap_replyAndDispatch (s : State) (o : Order) (r : Result) (f : List Byte) :
    NoGap (s.replyAndDispatch o r f).flight.arrivals ↔ NoGap s.flight.arrivals := by
  simp [State.replyAndDispatch]

@[simp] theorem noGap_settle (s : State) : NoGap s.settle.flight.arrivals ↔ NoGap s.flight.arrivals := by
  simp [State.settle]

@[simp] theorem noGap_serviceExpired (s : State) (e : NoticeEntry) :
    NoGap (s.serviceExpired e).flight.arrivals ↔ NoGap s.flight.arrivals := by
  simp [State.serviceExpired]

/-! ### Grants -/

@[simp] theorem noGap_takeGrant (s : State) (i : SourceNo) (n : Byte) :
    NoGap (s.takeGrant i n).flight.arrivals ↔ NoGap s.flight.arrivals := by
  obtain ⟨-, h⟩ | ⟨g, -, -, -, -, h⟩ | ⟨g, -, -, h⟩ := takeGrant_cases s i n <;> simp [h]

@[simp] theorem noGap_takeAsk (s : State) (a : GrantAsk) : NoGap (s.takeAsk a).flight.arrivals ↔ NoGap s.flight.arrivals := by
  cases a <;> simp [State.takeAsk]

@[simp] theorem noGap_takeAsks (s : State) : NoGap s.takeAsks.flight.arrivals ↔ NoGap s.flight.arrivals :=
  takeAsks_keeps (fun t => NoGap t.flight.arrivals ↔ NoGap s.flight.arrivals) (fun _ ht => ht)
    (fun t a ht => (noGap_takeAsk t a).trans ht) Iff.rfl

@[simp] theorem noGap_takeWithdrawal (s : State) (i : SourceNo) :
    NoGap (s.takeWithdrawal i).flight.arrivals ↔ NoGap s.flight.arrivals := by
  unfold State.takeWithdrawal
  split
  · split <;> simp
  · rfl

/-! ### Sessions and profiles -/

@[simp] theorem noGap_teardown {k : RecordKind} (h : k ≠ .gap) (s : State) (e : EndCause) (c : Option ClassNo) (n : Option Byte) :
    NoGap (s.teardown e k c n).flight.arrivals ↔ NoGap s.flight.arrivals := by
  simp [State.teardown, State.endGrants, h]

@[simp] theorem noGap_takeLoss (s : State) : NoGap s.takeLoss.flight.arrivals ↔ NoGap s.flight.arrivals := by
  unfold State.takeLoss
  split <;> simp

@[simp] theorem noGap_openWith (s : State) (p : SessionParams) :
    NoGap (s.openWith p).flight.arrivals ↔ NoGap s.flight.arrivals := by
  simp [State.openWith]

@[simp] theorem noGap_loadProfile (s : State) (n : SlotNo) (p : Profile) :
    NoGap (s.loadProfile n p).flight.arrivals ↔ NoGap s.flight.arrivals := by
  simp [State.loadProfile]

end Sys2Proof.Proofs

/-! ## The journal's law, step by step

Every order, every other event and the passing of time keep the law of the journal and of the records handed to it. -/

namespace Sys2Proof.Proofs

open Sys2Proof Sys2Proof.Machine Sys2Proof.Laws

/-- Every next state of the outcome keeps the law. -/
def EndsLawful (x : Host.Outcome State Fault Refusal) : Prop := ∀ t, x = .next t → RecordsLaw t

@[simp] theorem endsLawful_next (t : State) : EndsLawful (.next t) ↔ RecordsLaw t := by simp [EndsLawful]

/-- A command that acts only under a condition keeps the law when what it then does keeps it. -/
theorem endsLawful_ite {p : Prop} [Decidable p] {s t : State} (hs : RecordsLaw s) (ht : RecordsLaw t) :
    EndsLawful (if p then .next t else .next s) := by
  split
  · simpa using ht
  · simpa using hs

/-! ### Answers -/

@[simp] theorem recordsLaw_reply (s : State) (o : Order) (r : Result) (f : List Byte) :
    RecordsLaw (s.reply o r f) ↔ RecordsLaw s := by simp [recordsLaw_iff]

@[simp] theorem recordsLaw_replyMalformed (s : State) (o : Order) (p : List Byte) :
    RecordsLaw (s.replyMalformed o p) ↔ RecordsLaw s := recordsLaw_reply s o _ _

@[simp] theorem recordsLaw_replyAndDispatch (s : State) (o : Order) (r : Result) (f : List Byte) :
    RecordsLaw (s.replyAndDispatch o r f) ↔ RecordsLaw s := by simp [recordsLaw_iff]

@[simp] theorem recordsLaw_takeLoss (s : State) : RecordsLaw s.takeLoss ↔ RecordsLaw s := by simp [recordsLaw_iff]

@[simp] theorem recordsLaw_takeAsks (s : State) : RecordsLaw s.takeAsks ↔ RecordsLaw s := by simp [recordsLaw_iff]

/-! ### Orders on notices -/

@[simp] theorem recordsLaw_claimTaken (o : Order) (e : NoticeEntry) (s : State) :
    RecordsLaw (claimTaken o e s) ↔ RecordsLaw s := by
  simp [recordsLaw_iff, claimTaken]

@[simp] theorem recordsLaw_releaseTaken (o : Order) (e : NoticeEntry) (s : State) :
    RecordsLaw (releaseTaken o e s) ↔ RecordsLaw s := by
  by_cases hlate : e.state = .expired <;> simp [recordsLaw_iff, releaseTaken, hlate]

@[simp] theorem recordsLaw_returnTaken (o : Order) (hold : Half) (e : NoticeEntry) (s : State) :
    RecordsLaw (returnTaken o hold e s) ↔ RecordsLaw s := by
  simp [recordsLaw_iff, returnTaken]

/-- CLAIM, RELEASE and RETURN keep the law as far as what they do to an entry keeps it. -/
@[simp] theorem recordsLaw_settleOrder (o : Order) (n : Byte) (admits : EntryState → Bool)
    {take : NoticeEntry → State → State} (htake : ∀ e t, RecordsLaw (take e t) ↔ RecordsLaw t) (s : State) :
    RecordsLaw (settleOrder o n admits take s) ↔ RecordsLaw s := by
  unfold settleOrder
  dsimp only
  split
  · split
    · split <;> simp [htake]
    · simp
  · simp

/-! ### Orders on tables, sources, sessions and profiles -/

@[simp] theorem recordsLaw_setSteerOrder (o : Order) (source mode cls qual journal : Byte) (s : State) :
    RecordsLaw (setSteerOrder o source mode cls qual journal s) ↔ RecordsLaw s := by
  unfold setSteerOrder
  split
  · split
    · simp
    · split <;> simp [recordsLaw_iff]
  all_goals simp

@[simp] theorem recordsLaw_getSteerOrder (o : Order) (source : Byte) (s : State) :
    RecordsLaw (getSteerOrder o source s) ↔ RecordsLaw s := by
  unfold getSteerOrder
  split <;> simp

@[simp] theorem recordsLaw_setClassOrder (o : Order) (cls : Byte) (x : Option ClassSettings) (s : State) :
    RecordsLaw (setClassOrder o cls x s) ↔ RecordsLaw s := by
  unfold setClassOrder
  split
  · split <;> simp [recordsLaw_iff]
  all_goals simp

@[simp] theorem recordsLaw_getClassOrder (o : Order) (cls : Byte) (s : State) :
    RecordsLaw (getClassOrder o cls s) ↔ RecordsLaw s := by
  unfold getClassOrder
  split <;> simp

@[simp] theorem recordsLaw_maskOrder (o : Order) (selected : Half) (action : Byte) (s : State) :
    RecordsLaw (maskOrder o selected action s) ↔ RecordsLaw s := by
  unfold maskOrder
  split
  · simp [recordsLaw_iff]
  · split <;> simp [recordsLaw_iff]

@[simp] theorem recordsLaw_clearAlarmOrder (o : Order) (s : State) :
    RecordsLaw (clearAlarmOrder o s) ↔ RecordsLaw s := by
  unfold clearAlarmOrder
  split
  · simp
  · split <;> simp [recordsLaw_iff]

@[simp] theorem recordsLaw_pairGrantOrder (o : Order) (line : Byte) (p : Option Pairing) (s : State) :
    RecordsLaw (pairGrantOrder o line p s) ↔ RecordsLaw s := by
  unfold pairGrantOrder
  dsimp only
  split
  · split
    · simp
    · split <;> simp [recordsLaw_iff]
  all_goals simp

@[simp] theorem recordsLaw_forceOrder (o : Order) (source action : Byte) (s : State) :
    RecordsLaw (forceOrder o source action s) ↔ RecordsLaw s := by
  unfold forceOrder
  split
  · split
    · simp
    · split <;> simp [recordsLaw_iff]
  · simp

@[simp] theorem recordsLaw_openOrder (o : Order) (p : Option SessionParams) (s : State) :
    RecordsLaw (openOrder o p s) ↔ RecordsLaw s := by
  unfold openOrder
  dsimp only
  split
  · simp
  · split <;> simp [recordsLaw_iff]

@[simp] theorem recordsLaw_closeOrder (o : Order) (s : State) : RecordsLaw (closeOrder o s) ↔ RecordsLaw s := by
  unfold closeOrder
  dsimp only
  split <;> simp [recordsLaw_iff]

@[simp] theorem recordsLaw_saveOrder (o : Order) (slot : Byte) (s : State) : RecordsLaw (saveOrder o slot s) ↔ RecordsLaw s := by
  unfold saveOrder
  split
  · split <;> simp [recordsLaw_iff]
  · simp

@[simp] theorem recordsLaw_setBootOrder (o : Order) (designation : Byte) (s : State) :
    RecordsLaw (setBootOrder o designation s) ↔ RecordsLaw s := by
  unfold setBootOrder
  split
  · split <;> simp [recordsLaw_iff]
  · simp

@[simp] theorem recordsLaw_loadOrder (o : Order) (slot : Byte) (s : State) : RecordsLaw (loadOrder o slot s) ↔ RecordsLaw s := by
  unfold loadOrder
  split
  · simp
  · split
    · simp
    · split
      · simp
      · simp
      · split <;> simp [recordsLaw_iff]

/-- TRIM-JOURNAL leaves the newest records (R109). -/
theorem recordsLaw_trimOrder {s : State} (hs : RecordsLaw s) (o : Order) (limit : Seq) : RecordsLaw (trimOrder o limit s) := by
  obtain ⟨hjournal, harrivals⟩ := hs
  unfold trimOrder
  split
  · simpa using ⟨hjournal, harrivals⟩
  · exact (recordsLaw_reply _ _ _ _).mpr ⟨journalLaw_trimTo hjournal limit, harrivals⟩

/-! ### Frames that arrive -/

/-- An order keeps the law when its body does; a frame not taken hands nothing. -/
theorem endsLawful_takeOrder {s : State} (hs : RecordsLaw s) {kind tag : Byte} {payload : List Byte} {body : Order → State → State}
    (hbody : ∀ o t, RecordsLaw t → RecordsLaw (body o t)) : EndsLawful (.next (s.takeOrder kind tag payload body)) := by
  rw [endsLawful_next]
  obtain ⟨-, h⟩ | ⟨w, -, -, h⟩ | ⟨-, -, -, h⟩ | ⟨-, -, -, h⟩ := takeOrder_cases s kind tag payload body
  all_goals rw [h]
  case inl => exact hs
  case inr.inl => simpa [recordsLaw_iff] using hs
  case inr.inr.inl => simpa [recordsLaw_iff] using hs
  case inr.inr.inr => exact hbody _ _ (by simpa [recordsLaw_iff] using hs)

/-- The arrival of a frame, whichever order it is: the order's body, or the answer to a wrong length. -/
theorem endsLawful_frameArrival {s : State} (hs : RecordsLaw s) (kind tag : Byte) (payload : List Byte) :
    EndsLawful (frameArrival kind tag payload s) := by
  unfold frameArrival
  split
  case h_24 => exact endsLawful_takeOrder hs fun o t ht => (recordsLaw_reply _ _ _ _).mpr ht
  all_goals
    refine endsLawful_takeOrder hs fun o t ht => ?_
    split
    · simp [recordsLaw_trimOrder, ht]
    · exact (recordsLaw_replyMalformed _ _ _).mpr ht

/-- A command that is the arrival of a frame is that arrival. -/
theorem exec_eq_frameArrival {i : Instr} {f : Frame} (h : frameOf i = some f) (s : State) :
    exec i s = frameArrival f.kind f.tag f.payload s := by
  cases i <;> cases h <;> rfl

theorem endsLawful_of_frameOf {i : Instr} {f : Frame} (h : frameOf i = some f) {s : State} (hs : RecordsLaw s) :
    EndsLawful (exec i s) :=
  exec_eq_frameArrival h s ▸ endsLawful_frameArrival hs _ _ _

/-! ### Events of the link -/

theorem endsLawful_execFrameFailure {s : State} (hs : RecordsLaw s) (cause : WireFailure) :
    EndsLawful (execFrameFailure cause s) := by
  unfold execFrameFailure
  split
  · split <;> split <;> simpa [recordsLaw_iff] using hs
  · simpa using hs

/-- A byte moves the receiver, or completes the frame whose arrival it then is (R117). -/
theorem endsLawful_takeByte {s : State} (hs : RecordsLaw s) (byte : Byte) : EndsLawful (takeByte byte s) := by
  unfold takeByte
  split
  case h_7 =>
    split
    · exact endsLawful_frameArrival hs _ _ _
    · simpa [recordsLaw_iff] using hs
  case h_1 | h_2 => split <;> simpa [recordsLaw_iff] using hs
  all_goals simpa [recordsLaw_iff] using hs

theorem endsLawful_execByteReceived {s : State} (hs : RecordsLaw s) (byte : Byte) : EndsLawful (execByteReceived byte s) := by
  unfold execByteReceived
  split
  · split
    · simpa [recordsLaw_iff] using hs
    · exact endsLawful_takeByte hs byte
  · simpa using hs

/-! ### Resets and start-up -/

/-- A reset empties the journal, or lets it take every record handed (R98, R112, R113); nothing is left in flight. -/
theorem recordsLaw_beginReset {s : State} (hs : RecordsLaw s) (cause : ResetCause) : RecordsLaw (s.beginReset cause) := by
  obtain ⟨hjournal, harrivals⟩ := hs
  refine ⟨?_, noGap_nil⟩
  cases cause with
  | powerOn => exact journalLaw_empty 1
  | pin | restart => exact arrivals_keep JournalLaw (·.kind ≠ .gap) (fun _ _ => journalLaw_arrive) _ hjournal harrivals

/-- RESET and BOOT arrive within start-up (R112, R113). -/
theorem recordsLaw_journalStartUp {s : State} (hs : RecordsLaw s) : RecordsLaw s.journalStartUp := by
  obtain ⟨hjournal, harrivals⟩ := hs
  exact ⟨journalLaw_arrive (journalLaw_arrive hjournal (by simp)) (by simp), harrivals⟩

theorem recordsLaw_startUp {s : State} (hs : RecordsLaw s) : RecordsLaw s.startUp := by
  have hbefore : RecordsLaw (({ s.leaveReset with
      store := { s.leaveReset.store with bootOutcome := s.store.bootChoice.1 } } : State).loadTables s.store.bootChoice.2) := hs
  simpa [recordsLaw_iff, State.startUp, State.enableReceiver] using recordsLaw_journalStartUp hbefore

/-- A completion hands nothing, save that of a RESTART answer, at which a reset begins (R128, R134). -/
theorem recordsLaw_completed {s : State} (hs : RecordsLaw s) (origin : Origin) : RecordsLaw (s.completed origin) := by
  unfold State.completed
  split
  case h_2 =>
    dsimp only
    split
    · exact recordsLaw_beginReset hs .restart
    · exact hs
  all_goals simpa [recordsLaw_iff] using hs

theorem endsLawful_execTransmissionCompletion {s : State} (hs : RecordsLaw s) : EndsLawful (execTransmissionCompletion s) := by
  unfold execTransmissionCompletion
  split
  · rename_i t _
    have hidle : RecordsLaw { s with link := { s.link with tx := none } } := hs
    exact endsLawful_ite hs (by simpa [recordsLaw_iff] using recordsLaw_completed hidle t.origin)
  · simpa using hs

/-! ### Events of the other blocks -/

/-- JOURNAL_ARRIVAL moves the oldest record handed into the journal (R103). -/
theorem endsLawful_execJournalArrival {s : State} (hs : RecordsLaw s) : EndsLawful (execJournalArrival s) := by
  unfold execJournalArrival
  split
  · rename_i b rest harriving
    obtain ⟨hjournal, harrivals⟩ := hs
    rw [harriving] at harrivals
    obtain ⟨hb, hrest⟩ := List.forall_mem_cons.mp harrivals
    exact (endsLawful_next _).mpr ⟨journalLaw_arrive hjournal hb, hrest⟩
  · simpa using hs

theorem endsLawful_execRawLevelChange {s : State} (hs : RecordsLaw s) (pin : LevelPin) (level : Level) :
    EndsLawful (execRawLevelChange pin level s) := by
  cases pin <;> simpa [execRawLevelChange, recordsLaw_iff] using hs

theorem endsLawful_execQualificationTimerExpiry {s : State} (hs : RecordsLaw s) (i : SourceNo) :
    EndsLawful (execQualificationTimerExpiry i s) := by
  unfold execQualificationTimerExpiry
  split
  · exact endsLawful_ite hs (by simpa [recordsLaw_iff] using hs)
  · simpa using hs

theorem endsLawful_execContributionReport {s : State} (hs : RecordsLaw s) (i : SourceNo) :
    EndsLawful (execContributionReport i s) := by
  unfold execContributionReport
  split <;> simpa [recordsLaw_iff] using hs

theorem endsLawful_execAnswerTimerExpiry {s : State} (hs : RecordsLaw s) (n : Byte) :
    EndsLawful (execAnswerTimerExpiry n s) := by
  unfold execAnswerTimerExpiry
  dsimp only
  split
  · exact endsLawful_ite (by simpa using hs) (by simpa [recordsLaw_iff] using hs)
  · simpa using hs

theorem endsLawful_execServiceTimerExpiry {s : State} (hs : RecordsLaw s) (n : Byte) :
    EndsLawful (execServiceTimerExpiry n s) := by
  unfold execServiceTimerExpiry
  split
  · exact endsLawful_ite hs (by simpa [recordsLaw_iff] using hs)
  · simpa using hs

theorem endsLawful_execGrantRequest {s : State} (hs : RecordsLaw s) : EndsLawful (execGrantRequest s) := by
  unfold execGrantRequest
  split <;> simpa [recordsLaw_iff] using hs

theorem endsLawful_execGrantEndRequest {s : State} (hs : RecordsLaw s) : EndsLawful (execGrantEndRequest s) := by
  unfold execGrantEndRequest
  split <;> simpa [recordsLaw_iff] using hs

theorem endsLawful_execProfileSaveCompletion {s : State} (hs : RecordsLaw s) : EndsLawful (execProfileSaveCompletion s) := by
  unfold execProfileSaveCompletion
  split
  · exact endsLawful_ite hs (by simpa [recordsLaw_iff] using hs)
  all_goals simpa using hs

theorem endsLawful_execSetBootCompletion {s : State} (hs : RecordsLaw s) : EndsLawful (execSetBootCompletion s) := by
  unfold execSetBootCompletion
  split
  · exact endsLawful_ite hs (by simpa [recordsLaw_iff] using hs)
  all_goals simpa using hs

/-! ### One step -/

/-- Every command keeps the law: it is the arrival of a frame, or one of the part's other events. -/
theorem endsLawful_exec {s : State} (hs : RecordsLaw s) (i : Instr) : EndsLawful (exec i s) := by
  cases i with
  | frameFailure cause => exact endsLawful_execFrameFailure hs cause
  | byteReceived byte => exact endsLawful_execByteReceived hs byte
  | transmissionCompletion => exact endsLawful_execTransmissionCompletion hs
  | rawLevelChange pin level => exact endsLawful_execRawLevelChange hs pin level
  | qualificationTimerExpiry i => exact endsLawful_execQualificationTimerExpiry hs i
  | contributionReport i => exact endsLawful_execContributionReport hs i
  | answerTimerExpiry n => exact endsLawful_execAnswerTimerExpiry hs n
  | serviceTimerExpiry n => exact endsLawful_execServiceTimerExpiry hs n
  | grantRequest => exact endsLawful_execGrantRequest hs
  | grantEndRequest => exact endsLawful_execGrantEndRequest hs
  | journalArrival => exact endsLawful_execJournalArrival hs
  | sessionLost => exact (endsLawful_next _).mpr ((recordsLaw_takeLoss s).mpr hs)
  | profileSaveCompletion => exact endsLawful_execProfileSaveCompletion hs
  | setBootCompletion => exact endsLawful_execSetBootCompletion hs
  | powerOn => exact (endsLawful_next _).mpr (recordsLaw_beginReset hs .powerOn)
  | pinReset => exact (endsLawful_next _).mpr (recordsLaw_beginReset hs .pin)
  | supplyInRange | resetRelease => exact (endsLawful_next _).mpr hs
  | startUp => exact endsLawful_ite hs (recordsLaw_startUp hs)
  | interByteGapExpiry | deadlineExpiry _ | holdExpiry _ | guardExpiry _ | endOnWithdraw _ =>
    exact endsLawful_ite hs (by simpa [recordsLaw_iff] using hs)
  | _ => exact endsLawful_of_frameOf rfl hs

/-- The passing of time moves nothing of the journal's. -/
theorem recordsLaw_tick {s : State} (hs : RecordsLaw s) : RecordsLaw s.tick := by
  obtain ⟨-, h⟩ | ⟨-, -, h⟩ | ⟨-, -, h⟩ := tick_cases s
  all_goals
    rw [h]
    exact hs

/-- Settles O5: the law does not speak of the queue or the counter, and `endsLawful_exec` says that every command keeps it. -/
theorem journalLawKeptByEveryStep : Obligations.JournalLawKeptByEveryStep := by
  intro s t hs h
  exact step_keeps RecordsLaw (fun _ _ hs => hs) (fun _ => recordsLaw_tick) (fun i _ _ hs => endsLawful_exec hs i _) hs h

end Sys2Proof.Proofs

/-! ## ECHO and frames of an unknown kind

The two lengths of ECHO, and the one row of order admission that takes every kind which is no order code. -/

namespace Sys2Proof.Proofs

open Sys2Proof Sys2Proof.Machine Sys2Proof.Laws

/-- ECHO of a length that R166 admits (R133); the reading is that of its arrival. -/
theorem exec_echo_of_length_le {s : State} (h : s.admits) (tag : Byte) {payload : List Byte} (hlen : payload.length ≤ 54) :
    exec (.echo tag payload) s = .next (s.answered { kind := 0x02, tag := tag } .ok (payload ++ be32 s.time)).transmit :=
  congrArg Host.Outcome.next <| by
    rw [takeOrder_of_admits h, if_pos hlen, enterWindow_reply]
    rfl

/-- ECHO of a length that R166 does not admit (R121 step 3). -/
theorem exec_echo_of_le_length {s : State} (h : s.admits) (tag : Byte) {payload : List Byte} (hlen : 55 ≤ payload.length) :
    exec (.echo tag payload) s
      = .next (s.answered { kind := 0x02, tag := tag } .malformed [byteOf payload.length]).transmit :=
  congrArg Host.Outcome.next <| by
    rw [takeOrder_of_admits h, if_neg (Nat.not_le.mpr hlen)]
    exact enterWindow_reply ..

/-- Order admission hands a frame to a block only when its kind is an order code (R121 step 2). -/
theorem frameArrival_of_not_isOrderCode {kind : Byte} (h : isOrderCode kind = false) (tag : Byte) (payload : List Byte) (s : State) :
    frameArrival kind tag payload s = .next (unknownArrival kind tag payload s) := by
  unfold frameArrival
  split
  case h_24 => rfl
  all_goals simp [isOrderCode, *] at h

/-- An unknown kind, admitted: no body but its answer, which carries the kind received (R125). -/
theorem unknownArrival_of_admits {s : State} (h : s.admits) (kind tag : Byte) (payload : List Byte) :
    unknownArrival kind tag payload s = (s.answered { kind := kind, tag := tag } .unknown [kind]).transmit := by
  rw [unknownArrival, takeOrder_of_admits h, enterWindow_reply]

/-- Settles O24: ECHO is an admitted order whose body is its answer, by its length; a frame of an unknown kind passes every row of
order admission but the last (`frameArrival_of_not_isOrderCode`), whose body is its answer too. -/
theorem echoAndUnknownKindAreAnsweredAtOnce : Obligations.EchoAndUnknownKindAreAnsweredAtOnce := by
  refine ⟨fun tag payload s h => exec_echo_of_length_le h tag, fun tag payload s h => exec_echo_of_le_length h tag, ?unknown⟩
  case unknown =>
    intro kind tag payload s h hkind
    calc exec (.unknownKind kind tag payload) s
      _ = frameArrival kind tag payload s := exec_eq_frameArrival (f := ⟨kind, tag, payload⟩) rfl s
      _ = .next (unknownArrival kind tag payload s) := frameArrival_of_not_isOrderCode hkind tag payload s
      _ = _ := by rw [unknownArrival_of_admits h]

end Sys2Proof.Proofs

/-! ## ATTN

ATTN depends on the Session Unit and the class records alone. What moves either is followed by an evaluation of ATTN, or leaves the
condition of R143 as it was. -/

namespace Sys2Proof.Proofs

open Sys2Proof Sys2Proof.Machine Sys2Proof.Laws

/-! ### What the condition of R143 depends on -/

/-- The law of ATTN is kept where the Session Unit and the class records stand as they were. -/
theorem attnLaw_congr {s t : State} (hsession : t.session = s.session) (hclasses : t.classes = s.classes) :
    AttnLaw t ↔ AttnLaw s := by
  simp only [AttnLaw, State.attnCondition, hsession, klass_congr hclasses]

theorem attnLaw_of_same {s t : State} (hs : AttnLaw s) (hsession : t.session = s.session) (hclasses : t.classes = s.classes) :
    AttnLaw t :=
  (attnLaw_congr hsession hclasses).mpr hs

/-- An evaluation of ATTN establishes the law, whatever stood before (R143). -/
@[simp] theorem attnLaw_evalAttn (s : State) : AttnLaw s.evalAttn := rfl

theorem attnCondition_of_up {s : State} (hup : s.session.up = true) : s.attnCondition = false := by
  simp [State.attnCondition, hup]

/-- While the session is UP the law says that ATTN is released, whatever class is offered. -/
theorem attnLaw_of_up {s : State} (hup : s.session.up = true) : AttnLaw s ↔ s.session.attn = false := by
  rw [AttnLaw, attnCondition_of_up hup]

/-- A class record replaced by one that is offered alike moves nothing (R41). -/
theorem attnLaw_setKlass {s : State} {c : ClassNo} {r : ClassRecord} (hoffered : r.offered = (s.klass c).offered) :
    AttnLaw (s.setKlass c r) ↔ AttnLaw s := by
  have hall : ∀ d, ((s.setKlass c r).klass d).offered = (s.klass d).offered := by
    intro d
    rw [setKlass_klass]
    split
    · subst_vars
      exact hoffered
    · rfl
  simp only [AttnLaw, State.attnCondition, hall, setKlass_session]

/-! ### The arbiters and the answers -/

@[simp] theorem attnLaw_transmit (s : State) : AttnLaw s.transmit ↔ AttnLaw s := attnLaw_congr (by simp) (by simp)

@[simp] theorem attnLaw_transmitJoined (s : State) : AttnLaw s.transmitJoined ↔ AttnLaw s := attnLaw_congr (by simp) (by simp)

@[simp] theorem attnLaw_reply (s : State) (o : Order) (r : Result) (f : List Byte) : AttnLaw (s.reply o r f) ↔ AttnLaw s :=
  attnLaw_congr (by simp) (by simp)

@[simp] theorem attnLaw_replyMalformed (s : State) (o : Order) (p : List Byte) : AttnLaw (s.replyMalformed o p) ↔ AttnLaw s :=
  attnLaw_reply s o _ _

/-- The dispatch arbiter takes classes only while the session is UP, when ATTN is released (R61, R63). -/
theorem attnLaw_dispatch {s : State} (hs : AttnLaw s) : AttnLaw s.dispatch := by
  refine dispatch_keeps AttnLaw (fun t c ht heligible => ?_) hs
  obtain ⟨⟨⟨hup, -⟩, -⟩, -⟩ : ((t.session.up = true ∧ _) ∧ _) ∧ _ := by simpa [State.eligible] using heligible
  have hup' : (t.createNotice c).session.up = true := by simpa using hup
  simpa [attnLaw_of_up hup'] using (attnLaw_of_up hup).mp ht

/-- Where the dispatch arbiter runs after an order, ATTN is evaluated after it. -/
@[simp] theorem attnLaw_replyAndDispatch (s : State) (o : Order) (r : Result) (f : List Byte) :
    AttnLaw (s.replyAndDispatch o r f) := by
  simp [State.replyAndDispatch]

@[simp] theorem attnLaw_settle (s : State) : AttnLaw s.settle := by simp [State.settle]

/-! ### The end of a session -/

@[simp] theorem attnLaw_teardown (s : State) (e : EndCause) (k : RecordKind) (c : Option ClassNo) (n : Option Byte) :
    AttnLaw (s.teardown e k c n) := by
  simp only [State.teardown, attnLaw_evalAttn]

theorem attnLaw_takeLoss {s : State} (hs : AttnLaw s) : AttnLaw s.takeLoss := by
  unfold State.takeLoss
  split
  · exact attnLaw_teardown ..
  · exact hs

/-! ### Orders on notices -/

@[simp] theorem attnLaw_claimTaken (o : Order) (e : NoticeEntry) (s : State) : AttnLaw (claimTaken o e s) := by
  simp [claimTaken]

@[simp] theorem attnLaw_releaseTaken (o : Order) (e : NoticeEntry) (s : State) : AttnLaw (releaseTaken o e s) := by
  simp [releaseTaken]

@[simp] theorem attnLaw_returnTaken (o : Order) (hold : Half) (e : NoticeEntry) (s : State) :
    AttnLaw (returnTaken o hold e s) := by
  simp [returnTaken]

/-- CLAIM, RELEASE and RETURN refuse and change nothing, or take an entry and have ATTN evaluated. -/
theorem attnLaw_settleOrder {s : State} (hs : AttnLaw s) (o : Order) (n : Byte) (admits : EntryState → Bool)
    {take : NoticeEntry → State → State} (htake : ∀ e t, AttnLaw (take e t)) : AttnLaw (settleOrder o n admits take s) := by
  unfold settleOrder
  dsimp only
  split
  · split
    · split <;> simp [htake, attnLaw_takeLoss hs]
    · simp [attnLaw_takeLoss hs]
  · simp [attnLaw_takeLoss hs]

/-! ### Orders on tables, sources, sessions and profiles -/

section Orders

variable {s : State} (hs : AttnLaw s) (o : Order)
include hs

theorem attnLaw_setSteerOrder (source mode cls qual journal : Byte) :
    AttnLaw (setSteerOrder o source mode cls qual journal s) := by
  unfold setSteerOrder
  split
  · split
    · simpa using hs
    · split <;> simp [hs]
  all_goals simpa using hs

theorem attnLaw_getSteerOrder (source : Byte) : AttnLaw (getSteerOrder o source s) := by
  unfold getSteerOrder
  split <;> simpa using hs

theorem attnLaw_setClassOrder (cls : Byte) (x : Option ClassSettings) : AttnLaw (setClassOrder o cls x s) := by
  unfold setClassOrder
  split
  · split <;> simp [hs]
  all_goals simpa using hs

theorem attnLaw_getClassOrder (cls : Byte) : AttnLaw (getClassOrder o cls s) := by
  unfold getClassOrder
  split <;> simpa using hs

theorem attnLaw_maskOrder (selected : Half) (action : Byte) : AttnLaw (maskOrder o selected action s) := by
  unfold maskOrder
  split
  · simp
  · split <;> simp [hs]

theorem attnLaw_clearAlarmOrder : AttnLaw (clearAlarmOrder o s) := by
  unfold clearAlarmOrder
  split
  · simpa using hs
  · split
    · simpa using attnLaw_of_same hs (by simp) (by simp)
    · simpa using hs

/-- PAIR-GRANT moves grant lines alone (R90). -/
theorem attnLaw_pairGrantOrder (line : Byte) (p : Option Pairing) : AttnLaw (pairGrantOrder o line p s) := by
  have hasks : AttnLaw s.takeAsks := attnLaw_of_same hs (by simp) (by simp)
  unfold pairGrantOrder
  dsimp only
  split
  · split
    · simpa using hasks
    · split
      · simpa using hasks
      · simpa using attnLaw_of_same hasks (by simp) (by simp)
  all_goals simpa using hasks

/-- FORCE moves a source record and hands reports; the classes take these later (R10, R15). -/
theorem attnLaw_forceOrder (source action : Byte) : AttnLaw (forceOrder o source action s) := by
  unfold forceOrder
  split
  · split
    · simpa using hs
    · split
      · simpa using attnLaw_of_same hs (by simp) (by simp)
      · simpa using hs
  · simpa using hs

/-- An accepted OPEN has ATTN evaluated before the dispatch arbiter runs (R137). -/
theorem attnLaw_openOrder (p : Option SessionParams) : AttnLaw (openOrder o p s) := by
  unfold openOrder
  dsimp only
  split
  · simpa using attnLaw_takeLoss hs
  · split
    · simpa using attnLaw_takeLoss hs
    · exact (attnLaw_transmit _).mpr (attnLaw_dispatch (attnLaw_evalAttn _))

theorem attnLaw_closeOrder : AttnLaw (closeOrder o s) := by
  unfold closeOrder
  dsimp only
  split
  · simp
  · simpa using attnLaw_takeLoss hs

theorem attnLaw_saveOrder (slot : Byte) : AttnLaw (saveOrder o slot s) := by
  unfold saveOrder
  split
  · split
    · simpa using hs
    · exact attnLaw_of_same hs (by simp) (by simp)
  · simpa using hs

theorem attnLaw_setBootOrder (designation : Byte) : AttnLaw (setBootOrder o designation s) := by
  unfold setBootOrder
  split
  · split
    · simpa using hs
    · exact attnLaw_of_same hs rfl rfl
  · simpa using hs

theorem attnLaw_loadOrder (slot : Byte) : AttnLaw (loadOrder o slot s) := by
  unfold loadOrder
  split
  · simpa using hs
  · split
    · simpa using hs
    · split
      · simpa using hs
      · simpa using hs
      · split <;> simp [hs]

theorem attnLaw_trimOrder (limit : Seq) : AttnLaw (trimOrder o limit s) := by
  unfold trimOrder
  split
  · simpa using hs
  · exact (attnLaw_reply _ _ _ _).mpr (attnLaw_of_same hs rfl rfl)

end Orders

/-! ### Resets and start-up -/

/-- A reset brings the session DOWN with ATTN released, and leaves every class in IDLE (R57, R135). -/
theorem attnLaw_beginReset (s : State) (cause : ResetCause) : AttnLaw (s.beginReset cause) := by
  have hnone : ∀ c, ((s.beginReset cause).klass c).offered = false := by
    intro c
    simp [State.beginReset, State.klass, resetClass, ClassRecord.offered]
  have hcondition : (s.beginReset cause).attnCondition = false := by simp [State.attnCondition, hnone]
  exact hcondition.symm

theorem attnLaw_enableReceiver (s : State) : AttnLaw s.enableReceiver ↔ AttnLaw s := attnLaw_congr rfl rfl

/-- Start-up has ATTN evaluated once every class has been read (R160). -/
theorem attnLaw_startUp (s : State) : AttnLaw s.startUp := by
  unfold State.startUp
  dsimp only
  rw [attnLaw_transmit, attnLaw_enableReceiver]
  exact attnLaw_evalAttn _

/-- A completion moves neither the session nor a class, save that of a RESTART answer, at which a reset begins (R128, R134). -/
theorem attnLaw_completed {s : State} (hs : AttnLaw s) (origin : Origin) : AttnLaw (s.completed origin) := by
  unfold State.completed
  split
  case h_2 =>
    dsimp only
    split
    · exact attnLaw_beginReset ..
    · exact hs
  all_goals exact attnLaw_of_same hs (by simp) (by simp)

end Sys2Proof.Proofs

/-! ## The law of ATTN, step by step

Every order, every other event and the passing of time keep the law of ATTN. -/

namespace Sys2Proof.Proofs

open Sys2Proof Sys2Proof.Machine Sys2Proof.Laws

/-- The law of ATTN holds in every next state of the outcome. -/
def AttnLawAfter (x : Host.Outcome State Fault Refusal) : Prop := ∀ t, x = .next t → AttnLaw t

@[simp] theorem attnLawAfter_next (t : State) : AttnLawAfter (.next t) ↔ AttnLaw t := by simp [AttnLawAfter]

theorem attnLawAfter_of_same {s t : State} (hs : AttnLaw s) (hsession : t.session = s.session) (hclasses : t.classes = s.classes) :
    AttnLawAfter (.next t) :=
  (attnLawAfter_next t).mpr (attnLaw_of_same hs hsession hclasses)

/-- A command that acts only under a condition keeps the law when what it then does keeps it. -/
theorem attnLawAfter_ite {p : Prop} [Decidable p] {s t : State} (hs : AttnLaw s) (ht : AttnLaw t) :
    AttnLawAfter (if p then .next t else .next s) := by
  split
  · simpa using ht
  · simpa using hs

section Events

variable {s : State} (hs : AttnLaw s)
include hs

/-! ### Frames that arrive -/

/-- An order keeps the law when its body does; a frame not taken moves the link alone. -/
theorem attnLawAfter_takeOrder {kind tag : Byte} {payload : List Byte} {body : Order → State → State}
    (hbody : ∀ o t, AttnLaw t → AttnLaw (body o t)) : AttnLawAfter (.next (s.takeOrder kind tag payload body)) := by
  rw [attnLawAfter_next]
  obtain ⟨-, h⟩ | ⟨w, -, -, h⟩ | ⟨-, -, -, h⟩ | ⟨-, -, -, h⟩ := takeOrder_cases s kind tag payload body
  all_goals rw [h]
  case inl => exact hs
  case inr.inl => exact attnLaw_of_same hs (by simp) (by simp)
  case inr.inr.inl => exact attnLaw_of_same hs (by simp) (by simp)
  case inr.inr.inr => exact hbody _ _ (attnLaw_of_same hs (by simp) (by simp))

/-- The arrival of a frame, whichever order it is: the order's body, or the answer to a wrong length. -/
theorem attnLawAfter_frameArrival (kind tag : Byte) (payload : List Byte) : AttnLawAfter (frameArrival kind tag payload s) := by
  unfold frameArrival
  split
  case h_24 => exact attnLawAfter_takeOrder hs fun o t ht => (attnLaw_reply _ _ _ _).mpr ht
  all_goals
    refine attnLawAfter_takeOrder hs fun o t ht => ?_
    split
    · simp [attnLaw_openOrder, attnLaw_closeOrder, attnLaw_settleOrder, attnLaw_setSteerOrder, attnLaw_getSteerOrder,
        attnLaw_setClassOrder, attnLaw_getClassOrder, attnLaw_maskOrder, attnLaw_clearAlarmOrder, attnLaw_pairGrantOrder,
        attnLaw_forceOrder, attnLaw_trimOrder, attnLaw_saveOrder, attnLaw_loadOrder, attnLaw_setBootOrder, ht]
    · exact (attnLaw_replyMalformed _ _ _).mpr ht

theorem attnLawAfter_of_frameOf {i : Instr} {f : Frame} (h : frameOf i = some f) : AttnLawAfter (exec i s) :=
  exec_eq_frameArrival h s ▸ attnLawAfter_frameArrival hs _ _ _

/-! ### Events of the link -/

theorem attnLawAfter_execFrameFailure (cause : WireFailure) : AttnLawAfter (execFrameFailure cause s) := by
  unfold execFrameFailure
  split
  · split <;> split <;> exact attnLawAfter_of_same hs (by simp) (by simp)
  · simpa using hs

/-- A byte moves the receiver, or completes the frame whose arrival it then is (R117). -/
theorem attnLawAfter_takeByte (byte : Byte) : AttnLawAfter (takeByte byte s) := by
  unfold takeByte
  split
  case h_7 =>
    split
    · exact attnLawAfter_frameArrival hs _ _ _
    · exact attnLawAfter_of_same hs (by simp) (by simp)
  case h_1 | h_2 => split <;> exact attnLawAfter_of_same hs (by simp) (by simp)
  all_goals exact attnLawAfter_of_same hs (by simp) (by simp)

theorem attnLawAfter_execByteReceived (byte : Byte) : AttnLawAfter (execByteReceived byte s) := by
  unfold execByteReceived
  split
  · split
    · exact attnLawAfter_of_same hs (by simp) (by simp)
    · exact attnLawAfter_takeByte hs byte
  · simpa using hs

theorem attnLawAfter_execTransmissionCompletion : AttnLawAfter (execTransmissionCompletion s) := by
  unfold execTransmissionCompletion
  split
  · rename_i t _
    have hidle : AttnLaw { s with link := { s.link with tx := none } } := hs
    exact attnLawAfter_ite hs ((attnLaw_transmit _).mpr (attnLaw_completed hidle t.origin))
  · simpa using hs

/-! ### Events of the other blocks -/

theorem attnLawAfter_execRawLevelChange (pin : LevelPin) (level : Level) : AttnLawAfter (execRawLevelChange pin level s) := by
  cases pin <;> exact attnLawAfter_of_same hs (by simp) (by simp)

theorem attnLawAfter_execQualificationTimerExpiry (i : SourceNo) : AttnLawAfter (execQualificationTimerExpiry i s) := by
  unfold execQualificationTimerExpiry
  split
  · exact attnLawAfter_ite hs (attnLaw_of_same hs (by simp) (by simp))
  · simpa using hs

theorem attnLawAfter_execContributionReport (i : SourceNo) : AttnLawAfter (execContributionReport i s) := by
  unfold execContributionReport
  split
  · simp
  · simpa using hs

/-- A class that becomes late stays in its state under its settings, so it is offered as before (R47). -/
theorem attnLawAfter_execDeadlineExpiry (c : ClassNo) : AttnLawAfter (execDeadlineExpiry c s) := by
  have hoffered : ({ s.klass c with deadlineTimer := none, late := true } : ClassRecord).offered = (s.klass c).offered := rfl
  have hlate := (attnLaw_setKlass hoffered).mpr hs
  exact attnLawAfter_ite hs (attnLaw_of_same hlate (by simp) (by simp))

theorem attnLawAfter_execAnswerTimerExpiry (n : Byte) : AttnLawAfter (execAnswerTimerExpiry n s) := by
  have hloss := attnLaw_takeLoss hs
  unfold execAnswerTimerExpiry
  dsimp only
  split
  · exact attnLawAfter_ite hloss (attnLaw_of_same hloss (by simp) (by simp))
  · simpa using hloss

theorem attnLawAfter_execServiceTimerExpiry (n : Byte) : AttnLawAfter (execServiceTimerExpiry n s) := by
  unfold execServiceTimerExpiry
  split
  · exact attnLawAfter_ite hs (by simp [State.serviceExpired])
  · simpa using hs

theorem attnLawAfter_execGrantRequest : AttnLawAfter (execGrantRequest s) := by
  unfold execGrantRequest
  split <;> exact attnLawAfter_of_same hs (by simp) (by simp)

theorem attnLawAfter_execGrantEndRequest : AttnLawAfter (execGrantEndRequest s) := by
  unfold execGrantEndRequest
  split <;> exact attnLawAfter_of_same hs (by simp) (by simp)

theorem attnLawAfter_execJournalArrival : AttnLawAfter (execJournalArrival s) := by
  unfold execJournalArrival
  split <;> exact attnLawAfter_of_same hs rfl rfl

theorem attnLawAfter_execProfileSaveCompletion : AttnLawAfter (execProfileSaveCompletion s) := by
  unfold execProfileSaveCompletion
  split
  · exact attnLawAfter_ite hs (attnLaw_of_same hs (by simp) (by simp))
  all_goals simpa using hs

theorem attnLawAfter_execSetBootCompletion : AttnLawAfter (execSetBootCompletion s) := by
  unfold execSetBootCompletion
  split
  · exact attnLawAfter_ite hs (attnLaw_of_same hs (by simp) (by simp))
  all_goals simpa using hs

/-! ### One step -/

/-- Every command keeps the law: it is the arrival of a frame, or one of the part's other events. -/
theorem attnLawAfter_exec (i : Instr) : AttnLawAfter (exec i s) := by
  cases i with
  | frameFailure cause => exact attnLawAfter_execFrameFailure hs cause
  | byteReceived byte => exact attnLawAfter_execByteReceived hs byte
  | transmissionCompletion => exact attnLawAfter_execTransmissionCompletion hs
  | rawLevelChange pin level => exact attnLawAfter_execRawLevelChange hs pin level
  | qualificationTimerExpiry i => exact attnLawAfter_execQualificationTimerExpiry hs i
  | contributionReport i => exact attnLawAfter_execContributionReport hs i
  | deadlineExpiry c => exact attnLawAfter_execDeadlineExpiry hs c
  | holdExpiry c => exact attnLawAfter_ite hs (attnLaw_settle _)
  | answerTimerExpiry n => exact attnLawAfter_execAnswerTimerExpiry hs n
  | serviceTimerExpiry n => exact attnLawAfter_execServiceTimerExpiry hs n
  | grantRequest => exact attnLawAfter_execGrantRequest hs
  | grantEndRequest => exact attnLawAfter_execGrantEndRequest hs
  | journalArrival => exact attnLawAfter_execJournalArrival hs
  | sessionLost => exact (attnLawAfter_next _).mpr (attnLaw_takeLoss hs)
  | profileSaveCompletion => exact attnLawAfter_execProfileSaveCompletion hs
  | setBootCompletion => exact attnLawAfter_execSetBootCompletion hs
  | powerOn => exact (attnLawAfter_next _).mpr (attnLaw_beginReset s .powerOn)
  | pinReset => exact (attnLawAfter_next _).mpr (attnLaw_beginReset s .pin)
  | supplyInRange | resetRelease => exact attnLawAfter_of_same hs rfl rfl
  | startUp => exact attnLawAfter_ite hs (attnLaw_startUp s)
  | interByteGapExpiry | guardExpiry _ | endOnWithdraw _ =>
    exact attnLawAfter_ite hs (attnLaw_of_same hs (by simp) (by simp))
  | _ => exact attnLawAfter_of_frameOf hs rfl

/-- The passing of time moves neither the session nor a class. -/
theorem attnLaw_tick : AttnLaw s.tick := by
  obtain ⟨-, h⟩ | ⟨-, -, h⟩ | ⟨-, -, h⟩ := tick_cases s
  all_goals
    rw [h]
    exact hs

end Events

/-- Settles O12: the law does not speak of the queue or the counter, and `attnLawAfter_exec` says that every command keeps it. -/
theorem attnLawKeptByEveryStep : Obligations.AttnLawKeptByEveryStep := by
  intro s t hs h
  exact step_keeps AttnLaw (fun _ _ hs => hs) (fun _ => attnLaw_tick) (fun i _ _ hs => attnLawAfter_exec hs i _) hs h

end Sys2Proof.Proofs

/-! ## OPEN

The session parameters as received, and what OPEN does once it is admitted. -/

namespace Sys2Proof.Proofs

open Sys2Proof Sys2Proof.Machine Sys2Proof.Laws

/-! ### The session parameters (R136) -/

/-- A nesting mode as received (R163). -/
def nestingOf (m : Byte) : Nesting := if m = 1 then .ordered else .free

theorem nesting?_of_le {m : Byte} (h : m.toNat ≤ 1) : nesting? m = some (nestingOf m) := by
  obtain rfl | rfl := eq_zero_or_eq_one_of_toNat_le_one h <;> rfl

theorem nesting?_of_lt {m : Byte} (h : 1 < m.toNat) : nesting? m = none := by
  have h0 : m ≠ 0 := by bv_omega
  have h1 : m ≠ 1 := by bv_omega
  simp only [nesting?, if_neg h0, if_neg h1]

/-- A nesting mode received is sent back as it came (R163). -/
theorem nestingOf_code {m : Byte} (h : m.toNat ≤ 1) : (nestingOf m).code = m := by
  obtain rfl | rfl := eq_zero_or_eq_one_of_toNat_le_one h <;> rfl

/-- The second check of R136, for the four parameters. -/
def LegalParams (c a r m : Byte) : Prop := 1 ≤ c.toNat ∧ c.toNat ≤ 8 ∧ a ≠ 0 ∧ r.toNat ≤ 7 ∧ m.toNat ≤ 1

theorem sessionParams?_of_legal {c a r m : Byte} (h : LegalParams c a r m) :
    sessionParams? c a r m = some { credit := c, answerTimeout := a, retryLimit := r, nesting := nestingOf m } := by
  obtain ⟨hc1, hc8, ha, hr, hm⟩ := h
  have hc0 : c ≠ 0 := by bv_omega
  have hrange : ¬ (c = 0 ∨ 8 < c.toNat ∨ a = 0 ∨ 7 < r.toNat) := by
    simp only [not_or, Nat.not_lt]
    exact ⟨hc0, hc8, ha, hr⟩
  simp only [sessionParams?, if_neg hrange, nesting?_of_le hm, Option.map_some]

theorem sessionParams?_of_not_legal {c a r m : Byte} (h : ¬ LegalParams c a r m) : sessionParams? c a r m = none := by
  unfold sessionParams?
  split
  · rfl
  · rename_i hrange
    simp only [not_or, Nat.not_lt] at hrange
    obtain ⟨hc0, hc8, ha, hr⟩ := hrange
    have hc1 : 1 ≤ c.toNat := by bv_omega
    have hm : 1 < m.toNat := Nat.lt_of_not_le fun hm => h ⟨hc1, hc8, ha, hr, hm⟩
    rw [nesting?_of_lt hm, Option.map_none]

/-! ### ATTN and the transmitter -/

/-- What the transmitter takes does not depend on ATTN, nor the condition of R143 on the transmitter. -/
theorem transmit_evalAttn (s : State) : s.transmit.evalAttn = s.evalAttn.transmit := by
  unfold State.transmit
  simp only [evalAttn_frame]
  split
  · rfl
  · split
    · rfl
    · split
      · rfl
      · split <;> rfl

/-- ATTN evaluated with the session UP is released (R143). -/
theorem evalAttn_of_up {s : State} (hup : s.session.up = true) :
    s.evalAttn = { s with session := { s.session with attn := false } } := by
  rw [State.evalAttn, attnCondition_of_up hup]

/-! ### The order at its arrival -/

theorem exec_openSession {s : State} (h : s.admits) (tag c a r m : Byte) :
    exec (.openSession tag [c, a, r, m]) s = .next (openOrder { kind := 0x03, tag := tag } (sessionParams? c a r m)
      (s.enterWindow { kind := 0x03, tag := tag })) :=
  congrArg Host.Outcome.next <| takeOrder_of_admits h _ _ _ _

/-- The first check: a session is UP (R136). -/
theorem openOrder_wrongState {s : State} (o : Order) (p : Option SessionParams) (hloss : s.flight.loss = none)
    (hup : s.session.up = true) :
    openOrder o p (s.enterWindow o) = (s.answered o .wrongState s.session.openFields).transmit := by
  simp only [openOrder, takeLoss_enterWindow o hloss, enterWindow_frame, hup, if_true, enterWindow_reply]

/-- The second check: a parameter is out of range (R136). -/
theorem openOrder_range {s : State} (o : Order) (hloss : s.flight.loss = none) (hdown : s.session.up = false) :
    openOrder o none (s.enterWindow o) = (s.answered o .range s.session.openFields).transmit := by
  simp only [openOrder, takeLoss_enterWindow o hloss, enterWindow_frame, hdown, Bool.false_eq_true, if_false, enterWindow_reply]

theorem openWith_enterWindow (s : State) (o : Order) (p : SessionParams) :
    (s.enterWindow o).openWith p = (s.openWith p).enterWindow o := rfl

/-- An accepted OPEN: its answer joins and is taken, ATTN is evaluated, and the dispatch arbiter runs (R137). -/
theorem openOrder_ok {s : State} (o : Order) (p : SessionParams) (hloss : s.flight.loss = none) (hdown : s.session.up = false) :
    openOrder o (some p) (s.enterWindow o)
      = (((s.openWith p).answered o .ok (s.openWith p).session.openFields).transmit.evalAttn.dispatch).transmit := by
  simp only [openOrder, takeLoss_enterWindow o hloss, enterWindow_frame, hdown, Bool.false_eq_true, if_false, openWith_enterWindow,
    enterWindow_reply]

/-- Settles O53: the payload is read as session parameters or refused (`sessionParams?_of_legal`, `sessionParams?_of_not_legal`), the
order then does what the three `openOrder` lemmas say, and the evaluation of ATTN, which the transmitter does not see, releases it. -/
theorem openBeginsASession : Obligations.OpenBeginsASession := by
  intro tag c a r m s h hloss
  dsimp only
  rw [exec_openSession h]
  refine ⟨fun hup => ?wrongState, fun hdown hillegal => ?range, fun hdown hlegal => ?ok⟩
  case wrongState =>
    rw [openOrder_wrongState _ _ hloss hup]
    rfl
  case range =>
    rw [sessionParams?_of_not_legal hillegal, openOrder_range _ hloss hdown]
    rfl
  case ok =>
    have ⟨_, _, _, _, hm⟩ := hlegal
    rw [sessionParams?_of_legal hlegal, openOrder_ok _ _ hloss hdown, transmit_evalAttn, evalAttn_of_up rfl, Session.openFields]
    dsimp only [State.openWith, State.handCount, State.hand]
    rw [nestingOf_code hm]
    rfl

end Sys2Proof.Proofs

/-! ## Requests taken one at a time

The Grant Line Unit takes the requests handed to it from the front of their list, so a run of them is one step of `takeAsk` after
another. -/

namespace Sys2Proof.Proofs

open Sys2Proof Sys2Proof.Machine Sys2Proof.Laws

theorem takeGrant_of_none {s : State} {i : SourceNo} (hg : s.pairedLine i = none) (n : Byte) : s.takeGrant i n = s := by
  simp only [State.takeGrant, hg]

theorem takeGrant_of_withdrawn {s : State} {i : SourceNo} {g : LineNo} (n : Byte) (hg : s.pairedLine i = some g)
    (happlies : s.withdrawApplies i g = true) (hlive : (s.src i).live = false) (htold : i ∉ s.flight.withdrawals) :
    s.takeGrant i n = s.handGrantEnd i g := by
  simp [State.takeGrant, hg, State.withdrawn, happlies, hlive, htold]

theorem takeGrant_of_granted {s : State} {i : SourceNo} {g : LineNo} (n : Byte) (hg : s.pairedLine i = some g)
    (h : s.withdrawApplies i g = false ∨ (s.src i).live = true ∨ i ∈ s.flight.withdrawals) :
    s.takeGrant i n = s.setLine g ((s.line g).grant n) := by
  have htest : (s.withdrawApplies i g && s.withdrawn i) = false := by
    obtain h | h | h := h <;> simp [State.withdrawn, h]
  simp only [State.takeGrant, hg, htest, Bool.false_eq_true, if_false]

/-- Taking a request neither reads nor writes the list of the others. -/
theorem takeAsk_withAsks (s : State) (a : GrantAsk) (l : List GrantAsk) :
    ({ s with flight := { s.flight with asks := l } } : State).takeAsk a
      = { s.takeAsk a with flight := { (s.takeAsk a).flight with asks := l } } := by
  cases a with
  | finish n => rfl
  | grant i n =>
    obtain ⟨hg, h⟩ | ⟨g, hg, happlies, hlive, htold, h⟩ | ⟨g, hg, hgrants, h⟩ := takeGrant_cases s i n
    all_goals simp only [State.takeAsk]
    case inl =>
      rw [h]
      exact takeGrant_of_none (s := { s with flight := { s.flight with asks := l } }) hg n
    case inr.inl =>
      rw [h]
      exact takeGrant_of_withdrawn (s := { s with flight := { s.flight with asks := l } }) n hg happlies hlive htold
    case inr.inr =>
      rw [h]
      exact takeGrant_of_granted (s := { s with flight := { s.flight with asks := l } }) n hg hgrants

theorem takeAsks_of_nil {s : State} (h : s.flight.asks = []) : s.takeAsks = s := by
  obtain ⟨⟩ := s
  rename_i flight _ _
  obtain ⟨⟩ := flight
  cases h
  rfl

/-- The oldest request is taken first, and the others after it (R73). -/
theorem takeAsks_of_cons {s : State} {a : GrantAsk} {rest : List GrantAsk} (h : s.flight.asks = a :: rest) :
    s.takeAsks = (s.popAsk.takeAsk a).takeAsks := by
  have hasks : (s.popAsk.takeAsk a).flight.asks = rest := by simp [State.popAsk, h]
  have hpop : ({ s with flight := { s.flight with asks := [] } } : State) = { s.popAsk with flight := { s.popAsk.flight with asks := [] } } := rfl
  rw [State.takeAsks, State.takeAsks, hasks, h, List.foldl_cons, hpop, takeAsk_withAsks]

/-- What the taking of the oldest request keeps, the taking of all of them keeps. -/
theorem takeAsks_keeps_of_pop {P : State → Prop}
    (htake : ∀ s a rest, P s → s.flight.asks = a :: rest → P (s.popAsk.takeAsk a)) {s : State} (hs : P s) : P s.takeAsks := by
  generalize hl : s.flight.asks = l
  induction l generalizing s with
  | nil => rwa [takeAsks_of_nil hl]
  | cons a rest ih =>
    rw [takeAsks_of_cons hl]
    exact ih (htake _ _ _ hs hl) (by simp [State.popAsk, hl])

@[simp] theorem takeAsks_asks (s : State) : s.takeAsks.flight.asks = [] := by
  generalize hl : s.flight.asks = l
  induction l generalizing s with
  | nil => rwa [takeAsks_of_nil hl]
  | cons a rest ih =>
    rw [takeAsks_of_cons hl]
    exact ih _ (by simp [State.popAsk, hl])

end Sys2Proof.Proofs

/-! ## What every command keeps

A law of the part is kept by every command when the operations that the commands are made of keep it. `Kept` lists those operations,
each under the condition under which a command does it; `Kept.exec_cases` goes through the commands once, for every law. -/

namespace Sys2Proof.Proofs

open Sys2Proof Sys2Proof.Machine Sys2Proof.Laws

/-! ### What the orders and expiries of a notice do before they are answered -/

/-- A CLAIM of an entry, before CLAIM is handed and the answer joins (R73, R74). -/
def claimEffect (e : NoticeEntry) (s : State) : State :=
  let l := s.claimListOf e.cls
  let s := s.updateEntry e.number fun x => x.claimed l s.time (s.klass e.cls).settings.limit
  let s := { s with dispatcher := s.dispatcher.dropFrames e.number }
  let s := s.clearClaimed e.cls l
  let s := s.ask (s.claimAsks e.number l)
  s.setKlass e.cls { s.klass e.cls with state := .inService, deadlineTimer := none, late := false }

/-- A RELEASE of an entry, before its record is handed and the answer joins (R75, R76). -/
def releaseEffect (e : NoticeEntry) (s : State) : State :=
  ((if e.state = .expired then s else s.ask [.finish e.number]).removeEntry e.number).setKlass e.cls
    ((s.klass e.cls).settleFresh s.time (s.contributors e.cls))

/-- A RETURN of an entry, before RETURN is handed and the answer joins (R77). -/
def returnEffect (hold : Half) (e : NoticeEntry) (s : State) : State :=
  (s.removeEntry e.number).setKlass e.cls ((s.klass e.cls).returned hold s.time (s.contributors e.cls))

/-- The expiry of an entry's service timer, before EXPIRE is handed (R79). -/
def expireEffect (e : NoticeEntry) (s : State) : State :=
  (((s.updateEntry e.number fun x => { x with state := .expired, serviceTimer := none }).setKlass e.cls
    { s.klass e.cls with state := .expired }).ask [.finish e.number]).joinFrame
      { notice := e.number, cls := e.cls, kind := .overdue, payload := overduePayload e.number e.cls (e.claimTime.getD 0) }

theorem claimTaken_eq_claimEffect (o : Order) (e : NoticeEntry) (s : State) :
    claimTaken o e s
      = ((claimEffect e s).handNotice .claim e.cls e.number (some (BitVec.ofNat 32 (claimSum (s.claimListOf e.cls))))).evalAttn.reply
          o .ok ([e.number, byteOf e.cls.val] ++ be32 (claimEffect e s).time ++ claimListBytes (s.claimListOf e.cls)) := by
  unfold claimTaken claimEffect
  rfl

theorem releaseTaken_eq_releaseEffect (o : Order) (e : NoticeEntry) (s : State) :
    releaseTaken o e s
      = ((releaseEffect e s).handNotice (if e.state = .expired then .releaseLate else .release) e.cls e.number none).replyAndDispatch
          o (if e.state = .expired then .late else .ok) [e.number, byteOf e.cls.val] := by
  by_cases hlate : e.state = .expired
  all_goals
    simp only [releaseTaken, releaseEffect, hlate, decide_true, decide_false, Bool.false_eq_true, if_true, if_false]
    rfl

theorem returnTaken_eq_returnEffect (o : Order) (hold : Half) (e : NoticeEntry) (s : State) :
    returnTaken o hold e s
      = ((returnEffect hold e s).handNotice .returned e.cls e.number (some (hold.zeroExtend 32))).replyAndDispatch
          o .ok [e.number, byteOf e.cls.val] := rfl

theorem serviceExpired_eq_expireEffect (s : State) (e : NoticeEntry) :
    s.serviceExpired e = ((expireEffect e s).handNotice .expire e.cls e.number none).evalAttn.transmit := rfl

/-- A profile put in force with no request left to take, before PROFILE-LOADED is handed (R150, R156). -/
def loadEffect (p : Profile) (s : State) : State :=
  let t := (s.loadTables p).loadClasses p
  { t with flight := { t.flight with reports := [] } }

theorem loadProfile_eq_loadEffect (s : State) (n : SlotNo) (p : Profile) :
    s.loadProfile n p = (loadEffect p s.takeAsks).handCount .profileLoaded (BitVec.ofNat 32 n.val) := rfl

/-! ### What these leave as it is -/

@[simp] theorem claimEffect_frame (e : NoticeEntry) (s : State) :
    (claimEffect e s).time = s.time ∧ (claimEffect e s).steering = s.steering ∧ (claimEffect e s).alarm = s.alarm
    ∧ (claimEffect e s).lines = s.lines ∧ (claimEffect e s).journal = s.journal ∧ (claimEffect e s).session = s.session
    ∧ (claimEffect e s).store = s.store ∧ (claimEffect e s).power = s.power ∧ (claimEffect e s).choices = s.choices
    ∧ (claimEffect e s).pending = s.pending ∧ (claimEffect e s).link = s.link
    ∧ (claimEffect e s).flight.withdrawals = s.flight.withdrawals ∧ (claimEffect e s).flight.arrivals = s.flight.arrivals
    ∧ (claimEffect e s).flight.loss = s.flight.loss := by
  simp [claimEffect]

@[simp] theorem releaseEffect_frame (e : NoticeEntry) (s : State) :
    (releaseEffect e s).time = s.time ∧ (releaseEffect e s).steering = s.steering ∧ (releaseEffect e s).alarm = s.alarm
    ∧ (releaseEffect e s).lines = s.lines ∧ (releaseEffect e s).journal = s.journal
    ∧ (releaseEffect e s).session = s.session ∧ (releaseEffect e s).store = s.store ∧ (releaseEffect e s).power = s.power
    ∧ (releaseEffect e s).choices = s.choices ∧ (releaseEffect e s).pending = s.pending
    ∧ (releaseEffect e s).sources = s.sources ∧ (releaseEffect e s).flight.reports = s.flight.reports
    ∧ (releaseEffect e s).flight.withdrawals = s.flight.withdrawals
    ∧ (releaseEffect e s).flight.arrivals = s.flight.arrivals ∧ (releaseEffect e s).flight.loss = s.flight.loss := by
  unfold releaseEffect
  split <;> simp

@[simp] theorem returnEffect_frame (hold : Half) (e : NoticeEntry) (s : State) :
    (returnEffect hold e s).time = s.time ∧ (returnEffect hold e s).steering = s.steering
    ∧ (returnEffect hold e s).alarm = s.alarm ∧ (returnEffect hold e s).lines = s.lines
    ∧ (returnEffect hold e s).journal = s.journal ∧ (returnEffect hold e s).session = s.session
    ∧ (returnEffect hold e s).store = s.store ∧ (returnEffect hold e s).power = s.power
    ∧ (returnEffect hold e s).choices = s.choices ∧ (returnEffect hold e s).pending = s.pending
    ∧ (returnEffect hold e s).sources = s.sources ∧ (returnEffect hold e s).flight = s.flight := by
  simp [returnEffect]

@[simp] theorem expireEffect_frame (e : NoticeEntry) (s : State) :
    (expireEffect e s).time = s.time ∧ (expireEffect e s).steering = s.steering ∧ (expireEffect e s).alarm = s.alarm
    ∧ (expireEffect e s).lines = s.lines ∧ (expireEffect e s).journal = s.journal ∧ (expireEffect e s).session = s.session
    ∧ (expireEffect e s).store = s.store ∧ (expireEffect e s).power = s.power ∧ (expireEffect e s).choices = s.choices
    ∧ (expireEffect e s).pending = s.pending ∧ (expireEffect e s).sources = s.sources ∧ (expireEffect e s).link = s.link
    ∧ (expireEffect e s).flight.reports = s.flight.reports ∧ (expireEffect e s).flight.withdrawals = s.flight.withdrawals
    ∧ (expireEffect e s).flight.arrivals = s.flight.arrivals ∧ (expireEffect e s).flight.loss = s.flight.loss := by
  simp [expireEffect]

@[simp] theorem loadEffect_frame (p : Profile) (s : State) :
    (loadEffect p s).time = s.time ∧ (loadEffect p s).alarm = s.alarm ∧ (loadEffect p s).dispatcher = s.dispatcher
    ∧ (loadEffect p s).journal = s.journal ∧ (loadEffect p s).link = s.link ∧ (loadEffect p s).session = s.session
    ∧ (loadEffect p s).store = s.store ∧ (loadEffect p s).power = s.power ∧ (loadEffect p s).choices = s.choices
    ∧ (loadEffect p s).pending = s.pending ∧ (loadEffect p s).flight.asks = s.flight.asks
    ∧ (loadEffect p s).flight.withdrawals = s.flight.withdrawals ∧ (loadEffect p s).flight.arrivals = s.flight.arrivals
    ∧ (loadEffect p s).flight.loss = s.flight.loss := by
  simp [loadEffect]

/-! ### The operations -/

/-- A property of the state, `P none`, and what it is while an order `o` stands in the window and is not answered yet, `P (some o)`,
are kept by every operation of which the commands are made. A reset and start-up are not among them. -/
structure Kept (P : Option Order → State → Prop) : Prop where
  /-- `P` does not speak of the journal, the records handed, the free values, the queue or ATTN. -/
  free : ∀ {w s} (j : Journal) (a : List RecordBody) (c : Nat) (q : List Instr) (b : Bool), P w s →
    P w { s with journal := j, flight := { s.flight with arrivals := a }, choices := c, pending := q, session := { s.session with attn := b } }
  straps : ∀ {s} (b a : Bool), P none s → P none { s with link := { s.link with rateB := b, rateA := a } }
  power : ∀ {s} (p : ResetUnit), p.inReset = s.power.inReset → P none s → P none { s with power := p }
  -- the receiver and the order window
  waitQuiet : ∀ {s} (q : Quiet) (n : Nat), P none s → s.link.rxEnabled = true → s.link.rx = .hunt ∨ s.link.rxWait.isSome →
    P none (s.waitQuiet q n)
  discard : ∀ {s}, P none s → P none s.discard
  enterWindow : ∀ {s} (o : Order), P none s → s.admits → P (some o) (s.enterWindow o)
  frameFails : ∀ {s}, P none s → P none s.frameFails
  receiveTo : ∀ {s} (r : Receive), P none s → s.link.rxEnabled = true → s.link.rxWait = none → r ≠ .hunt → P none (s.receiveTo r)
  enqueue : ∀ {s o} (r : Result) (f : List Byte), P (some o) s → f.length ≤ 58 → P none (s.enqueue o r f)
  -- the transmitter
  sendStart : ∀ {s}, P none s → s.link.tx = none → P none s.sendStart
  sendAnswer : ∀ {s a rest}, P none s → s.link.tx = none → s.link.answers = a :: rest → P none (s.sendAnswer a rest)
  sendNotice : ∀ {s f}, P none s → s.link.tx = none → f ∈ s.dispatcher.sendList → P none (s.sendNotice f)
  startSent : ∀ {s t}, P none s → s.link.tx = some t → t.origin = .start →
    P none { s with link := { s.link with tx := none, startPending := false } }
  answerSent : ∀ {s t o}, P none s → s.link.tx = some t → t.origin = .answer o false →
    P none { s with link := { s.link with tx := none, window := s.link.window.erase o } }
  noticeSent : ∀ {s t n}, P none s → s.link.tx = some t → t.origin = .notice (some n) →
    P none (({ s with link := { s.link with tx := none } } : State).updateEntry n
      fun e => e.frameSent s.time s.session.answerTimeout)
  otherSent : ∀ {s t}, P none s → s.link.tx = some t → t.origin = .notice none ∨ t.origin = .overdue →
    P none { s with link := { s.link with tx := none } }
  -- sources and steering
  rawChange : ∀ {s} (i : SourceNo) (l : Level), P none s → P none (s.rawChange i l)
  qualified : ∀ {s i t}, P none s → (s.src i).timer = some t →
    P none ((s.setSrc i { s.src i with timer := none }).transition i t.target)
  force : ∀ {w s i a}, P w s → (s.steer i).mode ≠ .off → ForceAction.fits a (s.steer i).mode = true → P w (s.force i a)
  steerTo : ∀ {w s i e}, P w s → s.flight.asks = [] → s.steeredInUse i = none → s.conflict i e = none → P w (s.steerTo i e)
  -- classes
  takeReport : ∀ {s r}, P none s → r ∈ s.flight.reports →
    P none (({ s with flight := { s.flight with reports := s.flight.reports.erase r } } : State).takeReport r)
  deadline : ∀ {s c}, P none s → (s.klass c).deadlineTimer.isSome →
    P none { s.setKlass c { s.klass c with deadlineTimer := none, late := true } with alarm := true }
  hold : ∀ {s c}, P none s → (s.klass c).holdTimer.isSome →
    P none (s.setKlass c ((s.klass c).settleContinued (s.contributors c)))
  withSettings : ∀ {w s c} (x : ClassSettings), P w s → (s.klass c).state.inFlight = false →
    P w (s.setKlass c ((s.klass c).withSettings x s.time))
  setMasks : ∀ {w s} (m : Half) (b : Bool), P w s → P w (s.setMasks m b)
  alarmOff : ∀ {w s}, P w s → (∀ c, (s.klass c).late = false) → P w { s with alarm := false }
  -- notices
  createNotice : ∀ {s c}, P none s → s.eligible c = true → P none (s.createNotice c)
  claim : ∀ {w s e}, P w s → s.session.up = true → e ∈ s.dispatcher.entries → e.state = .notified → P w (claimEffect e s)
  release : ∀ {w s e}, P w s → s.session.up = true → e ∈ s.dispatcher.entries → e.state ≠ .notified → P w (releaseEffect e s)
  returned : ∀ {w s e} (h : Half), P w s → s.session.up = true → e ∈ s.dispatcher.entries → e.state = .notified →
    P w (returnEffect h e s)
  repeated : ∀ {s e}, P none s → e ∈ s.dispatcher.entries → e.answerTimer.isSome → e.sent ≤ s.session.retryLimit.toNat →
    P none ((s.updateEntry e.number fun x => { x with answerTimer := none }).joinFrame
      { notice := e.number, cls := e.cls, kind := .again, payload := noticePayload e true })
  exhausted : ∀ {s e}, P none s → e ∈ s.dispatcher.entries → e.answerTimer.isSome → s.session.retryLimit.toNat < e.sent →
    P none { s.updateEntry e.number fun x => { x with answerTimer := none } with
      flight := { s.flight with loss := some { cls := e.cls, notice := e.number } } }
  expired : ∀ {s e}, P none s → e ∈ s.dispatcher.entries → e.serviceTimer.isSome → P none (expireEffect e s)
  -- grant lines
  takeAsk : ∀ {w s a rest}, P w s → s.flight.asks = a :: rest → P w (s.popAsk.takeAsk a)
  takeWithdrawal : ∀ {s i}, P none s → i ∈ s.flight.withdrawals →
    P none (({ s with flight := { s.flight with withdrawals := s.flight.withdrawals.erase i } } : State).takeWithdrawal i)
  guardEnds : ∀ {s g}, P none s → (s.line g).guardTimer.isSome → P none (s.setLine g (s.line g).guardEnds)
  repair : ∀ {w s g p}, P w s → s.flight.asks = [] → (s.line g).holds = false → s.otherHolder g p = none →
    P w (s.setLine g ((s.line g).repair p))
  -- the session
  openWith : ∀ {w s p}, P w s → s.session.up = false → p.credit.toNat ≤ 8 → p.retryLimit.toNat ≤ 7 → P w (s.openWith p)
  teardown : ∀ {w s} (x : EndCause) (k : RecordKind) (c : Option ClassNo) (n : Option Byte), P w s →
    s.flight.loss.isSome ∨ s.session.up = true → P w (s.teardown x k c n)
  -- the profile store
  beginSave : ∀ {s o n}, P (some o) s → s.store.operation = .none → P none (s.beginSave o n)
  saved : ∀ {s n p o t}, P none s → s.store.operation = .save n p o t →
    let g := s.store.freeGeneration 4 (nextGeneration s.store.generation)
    P (some o) { s with store := { s.store.setSlot n (.valid g p) with generation := g, operation := .none } }
  beginSetBoot : ∀ {s o} (d : Option SlotNo), P (some o) s → s.store.operation = .none →
    P none { s with
      store := { s.store with boot := none, operation := .setBoot d o (s.time + designationLength s.choices) }
      choices := s.choices + 1 }
  bootSet : ∀ {s d o t}, P none s → s.store.operation = .setBoot d o t →
    P (some o) { s with store := { s.store with boot := d, operation := .none } }
  load : ∀ {w s n g p}, P w s → s.flight.asks = [] → s.dispatcher.entries = [] → s.store.slot n = .valid g p →
    P w (loadEffect p s)

end Sys2Proof.Proofs

namespace Sys2Proof.Proofs

open Sys2Proof Sys2Proof.Machine Sys2Proof.Laws

/-! ### The lengths of the answers -/

theorem be32_length (w : BitVec 32) : (be32 w).length = 4 := rfl

theorem be16_length (h : Half) : (be16 h).length = 2 := rfl

theorem steer_bytes_length (e : SteerEntry) : e.bytes.length = 4 := rfl

theorem settings_bytes_length (x : ClassSettings) : x.bytes.length = 6 := rfl

theorem operation_bytes_length (x : Operation) : x.bytes.length = 2 := by cases x <;> rfl

theorem classFields_length (s : State) (c : ClassNo) : (s.classFields c).length = 26 := by
  simp [State.classFields, be32_length, be16_length, settings_bytes_length]

theorem claimListOf_length_le (s : State) (c : ClassNo) : (s.claimListOf c).length ≤ 32 := by
  have hmembers : (s.members c).length ≤ 32 := (List.length_filter_le _ _).trans (by simp [allSources])
  rw [State.claimListOf, List.length_map]
  exact (List.length_filter_le _ _).trans hmembers

theorem claimListBytes_length_le (s : State) (c : ClassNo) : (claimListBytes (s.claimListOf c)).length ≤ 36 := by
  have := claimListOf_length_le s c
  simp only [claimListBytes, List.length_append, be32_length, List.length_map]
  omega

theorem linesFields_length (s : State) : s.linesFields.length = 40 := by simp [State.linesFields, be32_length, allSources]

theorem readFrom_length_le (j : Journal) (g : Seq) : (j.readFrom g).length ≤ 3 := by
  unfold Journal.readFrom
  split <;> simp

theorem record_bytes_length (r : JournalRecord) : r.bytes.length = 16 := rfl

theorem flatMap_bytes_length (l : List JournalRecord) : (l.flatMap JournalRecord.bytes).length = 16 * l.length := by
  induction l with
  | nil => rfl
  | cons r rest ih =>
    rw [List.flatMap_cons, List.length_append, ih, record_bytes_length, List.length_cons]
    omega

theorem readFields_length_le (j : Journal) (g : Seq) : (j.readFields g).length ≤ 57 := by
  have := readFrom_length_le j g
  simp only [Journal.readFields, List.length_cons, List.length_append, be32_length, flatMap_bytes_length]
  omega

theorem profileFields_length (t : Store) : t.profileFields.length = 27 := by
  simp [Store.profileFields, allSlots, be32_length, operation_bytes_length]

theorem statusFields_length (s : State) : s.statusFields.length = 26 := by
  simp [State.statusFields, be32_length, be16_length, operation_bytes_length]

theorem forceFields_length (s : State) (b : Byte) : (s.forceFields b).length = 4 := by
  unfold State.forceFields
  split <;> rfl

/-! ### An operation in progress, the parameters of a session -/

theorem operation_eq_none_of_not_busy {x : Operation} (h : ¬ x.busy = true) : x = .none := by
  cases x <;> simp_all [Operation.busy]

theorem sessionParams?_bounds {c a r m : Byte} {x : SessionParams} (h : sessionParams? c a r m = some x) :
    x.credit.toNat ≤ 8 ∧ x.retryLimit.toNat ≤ 7 := by
  unfold sessionParams? at h
  split at h
  · cases h
  · obtain ⟨m, -, rfl⟩ := Option.map_eq_some_iff.mp h
    simp only
    omega

theorem mem_entries_of_entry? {s : State} {n : Byte} {e : NoticeEntry} (h : s.entry? n = some e) : e ∈ s.dispatcher.entries := by
  unfold State.entry? at h
  split at h
  · cases h
  · exact List.mem_of_find?_eq_some h

/-! ### The arbiters and the answers -/

namespace Kept

variable {P : Option Order → State → Prop} (h : Kept P)
include h

theorem hand {w : Option Order} {s : State} (hs : P w s) (b : RecordBody) : P w (s.hand b) :=
  h.free s.journal (s.flight.arrivals ++ [b]) s.choices s.pending s.session.attn hs

theorem journal {w : Option Order} {s : State} (hs : P w s) (j : Journal) : P w { s with journal := j } :=
  h.free j s.flight.arrivals s.choices s.pending s.session.attn hs

theorem queue {w : Option Order} {s : State} (hs : P w s) (q : List Instr) : P w { s with pending := q } :=
  h.free s.journal s.flight.arrivals s.choices q s.session.attn hs

theorem evalAttn {w : Option Order} {s : State} (hs : P w s) : P w s.evalAttn :=
  h.free s.journal s.flight.arrivals s.choices s.pending s.attnCondition hs

theorem choose {s : State} (hs : P none s) : P none { s with choices := s.choices + 1 } :=
  h.free s.journal s.flight.arrivals (s.choices + 1) s.pending s.session.attn hs

theorem transmit {s : State} (hs : P none s) : P none s.transmit := by
  obtain ⟨ht, -⟩ | ⟨hidle, -, ht⟩ | ⟨hidle, a, rest, hanswers, ht⟩ | ⟨hidle, -, f, hf, ht⟩ := transmit_cases s
  all_goals rw [ht]
  case inl => exact hs
  case inr.inl => exact h.sendStart hs hidle
  case inr.inr.inl => exact h.sendAnswer hs hidle hanswers
  case inr.inr.inr => exact h.sendNotice hs hidle (firstFrame_mem hf)

theorem transmitJoined {s : State} (hs : P none s) : P none s.transmitJoined := by
  obtain ht | ht | ⟨hidle, f, hf, ht⟩ := transmitJoined_cases s
  all_goals rw [ht]
  case inl => exact h.transmit hs
  case inr.inl => exact h.transmit (h.choose hs)
  case inr.inr => exact h.sendNotice (h.choose hs) hidle (firstFrame_mem hf)

theorem dispatch {s : State} (hs : P none s) : P none s.dispatch :=
  dispatch_keeps (P none) (fun _ _ hs hc => h.createNotice hs hc) hs

theorem settle {s : State} (hs : P none s) : P none s.settle := h.transmit (h.evalAttn (h.dispatch hs))

section Answers

variable {s : State} {o : Order} {f : List Byte}

theorem reply (r : Result) (hs : P (some o) s) (hf : f.length ≤ 58) : P none (s.reply o r f) := h.transmit (h.enqueue r f hs hf)

theorem replyMalformed (p : List Byte) (hs : P (some o) s) : P none (s.replyMalformed o p) := h.reply _ hs (by simp)

theorem replyAndDispatch (r : Result) (hs : P (some o) s) (hf : f.length ≤ 58) : P none (s.replyAndDispatch o r f) :=
  h.transmitJoined (h.evalAttn (h.dispatch (h.enqueue r f hs hf)))

end Answers

theorem takeAsks {w : Option Order} {s : State} (hs : P w s) : P w s.takeAsks :=
  takeAsks_keeps_of_pop (fun _ _ _ hs hasks => h.takeAsk hs hasks) hs

theorem takeLoss {w : Option Order} {s : State} (hs : P w s) : P w s.takeLoss := by
  unfold State.takeLoss
  split
  · rename_i l hl
    exact h.teardown _ _ _ _ hs (.inl (by simp [hl]))
  · exact hs

/-! ### The orders -/

section Orders

variable {o : Order} {s : State} (hs : P (some o) s)
include hs

theorem settleOrder {n : Byte} {admits : EntryState → Bool} {take : NoticeEntry → State → State}
    (htake : ∀ t e, P (some o) t → t.session.up = true → e ∈ t.dispatcher.entries → admits e.state = true → P none (take e t)) :
    P none (settleOrder o n admits take s) := by
  have hloss := h.takeLoss hs
  unfold Machine.settleOrder
  dsimp only
  split
  · rename_i hup
    split
    · rename_i e he
      split
      · exact htake _ _ hloss hup (mem_entries_of_entry? he) ‹_›
      · exact h.reply _ hloss (by simp)
    · exact h.reply _ hloss (by simp)
  · exact h.reply _ hloss (by simp)

theorem claimTaken {e : NoticeEntry} (hup : s.session.up = true) (he : e ∈ s.dispatcher.entries) (hstate : e.state = .notified) :
    P none (claimTaken o e s) := by
  have := claimListBytes_length_le s e.cls
  rw [claimTaken_eq_claimEffect]
  refine h.reply _ (h.evalAttn (h.hand (h.claim hs hup he hstate) _)) ?_
  simp only [List.length_append, List.length_cons, List.length_nil, be32_length]
  omega

theorem releaseTaken {e : NoticeEntry} (hup : s.session.up = true) (he : e ∈ s.dispatcher.entries) (hstate : e.state ≠ .notified) :
    P none (releaseTaken o e s) := by
  rw [releaseTaken_eq_releaseEffect]
  exact h.replyAndDispatch _ (h.hand (h.release hs hup he hstate) _) (by simp)

theorem returnTaken {e : NoticeEntry} (hold : Half) (hup : s.session.up = true) (he : e ∈ s.dispatcher.entries)
    (hstate : e.state = .notified) : P none (returnTaken o hold e s) := by
  rw [returnTaken_eq_returnEffect]
  exact h.replyAndDispatch _ (h.hand (h.returned hold hs hup he hstate) _) (by simp)

theorem setSteerOrder (source mode cls qual journal : Byte) : P none (setSteerOrder o source mode cls qual journal s) := by
  unfold Machine.setSteerOrder
  split
  · rename_i i e _ _
    split
    · exact h.reply _ hs (by simp [steer_bytes_length])
    · rename_i hfree
      split
      · exact h.reply _ hs (by simp [steer_bytes_length])
      · rename_i hconflict
        refine h.replyAndDispatch _ (h.steerTo (h.takeAsks hs) (takeAsks_asks s) ?_ ?_) (by simp [steer_bytes_length])
        · simpa [State.steeredInUse, State.steer, State.klass] using hfree
        · simpa [State.conflict, State.othersIn, State.members, State.steer] using hconflict
  · exact h.reply _ hs (by simp [steer_bytes_length])
  · exact h.reply _ hs (by simp [steer_bytes_length])

theorem getSteerOrder (source : Byte) : P none (getSteerOrder o source s) := by
  unfold Machine.getSteerOrder
  split <;> exact h.reply _ hs (by simp [steer_bytes_length])

theorem setClassOrder (cls : Byte) (x : Option ClassSettings) : P none (setClassOrder o cls x s) := by
  unfold Machine.setClassOrder
  split
  · split
    · exact h.reply _ hs (by simp [settings_bytes_length])
    · rename_i hfree
      exact h.replyAndDispatch _ (h.withSettings _ hs (Bool.eq_false_iff.mpr hfree)) (by simp [settings_bytes_length])
  all_goals exact h.reply _ hs (by simp [settings_bytes_length])

theorem getClassOrder (cls : Byte) : P none (getClassOrder o cls s) := by
  unfold Machine.getClassOrder
  split <;> exact h.reply _ hs (by simp [classFields_length])

theorem maskOrder (selected : Half) (action : Byte) : P none (maskOrder o selected action s) := by
  unfold Machine.maskOrder
  split
  · exact h.reply _ (h.evalAttn (h.setMasks _ _ hs)) (by simp [State.maskFields, be16_length])
  · split
    · exact h.replyAndDispatch _ (h.setMasks _ _ hs) (by simp [State.maskFields, be16_length])
    · exact h.reply _ hs (by simp [State.maskFields, be16_length])

theorem clearAlarmOrder : P none (clearAlarmOrder o s) := by
  have hlength : ∀ t : State, t.alarmFields.length ≤ 58 := by simp [State.alarmFields, be16_length]
  unfold Machine.clearAlarmOrder
  split
  · exact h.reply _ hs (hlength _)
  · rename_i hlate
    split
    · refine h.reply _ (h.hand (h.alarmOff hs ?_) _) (hlength _)
      simpa [State.anyLate] using hlate
    · exact h.reply _ hs (hlength _)

theorem pairGrantOrder (line : Byte) (p : Option Pairing) : P none (pairGrantOrder o line p s) := by
  have hasks := h.takeAsks hs
  unfold Machine.pairGrantOrder
  dsimp only
  split
  · split
    · exact h.reply _ hasks (by simp [LineRecord.bytes])
    · rename_i hholds
      split
      · exact h.reply _ hasks (by simp [LineRecord.bytes])
      · exact h.reply _ (h.repair hasks (takeAsks_asks s) (Bool.eq_false_iff.mpr hholds) ‹_›) (by simp [LineRecord.bytes])
  all_goals exact h.reply _ hasks (by simp [LineRecord.bytes])

theorem forceOrder (source action : Byte) : P none (forceOrder o source action s) := by
  unfold Machine.forceOrder
  split
  · split
    · exact h.reply _ hs (by simp [forceFields_length])
    · split
      · exact h.reply _ (h.force hs ‹_› ‹_›) (by simp [forceFields_length])
      · exact h.reply _ hs (by simp [forceFields_length])
  · exact h.reply _ hs (by simp [forceFields_length])

theorem openOrder {p : Option SessionParams} (hp : ∀ x, p = some x → x.credit.toNat ≤ 8 ∧ x.retryLimit.toNat ≤ 7) :
    P none (openOrder o p s) := by
  have hloss := h.takeLoss hs
  unfold Machine.openOrder
  dsimp only
  split
  · exact h.reply _ hloss (by simp [Session.openFields])
  · rename_i hdown
    split
    · exact h.reply _ hloss (by simp [Session.openFields])
    · rename_i x
      obtain ⟨hcredit, hretry⟩ := hp x rfl
      have hopen := h.openWith hloss (Bool.eq_false_iff.mpr hdown) hcredit hretry
      exact h.transmit (h.dispatch (h.evalAttn (h.reply _ hopen (by simp [Session.openFields]))))

theorem closeOrder : P none (closeOrder o s) := by
  have hloss := h.takeLoss hs
  unfold Machine.closeOrder
  dsimp only
  split
  · exact h.reply _ (h.teardown _ _ _ _ hloss (.inr ‹_›)) (by simp)
  · exact h.reply _ hloss (by simp)

theorem trimOrder (limit : Seq) : P none (trimOrder o limit s) := by
  unfold Machine.trimOrder
  split
  · exact h.reply _ hs (by simp [Journal.trimFields, be32_length])
  · exact h.reply _ (h.journal hs _) (by simp [Journal.trimFields, be32_length])

theorem saveOrder (slot : Byte) : P none (saveOrder o slot s) := by
  unfold Machine.saveOrder
  split
  · split
    · exact h.reply _ hs (by simp [operation_bytes_length])
    · exact h.beginSave hs (operation_eq_none_of_not_busy ‹_›)
  · exact h.reply _ hs (by simp)

theorem setBootOrder (designation : Byte) : P none (setBootOrder o designation s) := by
  unfold Machine.setBootOrder
  split
  · split
    · exact h.reply _ hs (by simp [operation_bytes_length])
    · exact h.beginSetBoot _ hs (operation_eq_none_of_not_busy ‹_›)
  · exact h.reply _ hs (by simp)

theorem loadOrder (slot : Byte) : P none (loadOrder o slot s) := by
  unfold Machine.loadOrder
  split
  · exact h.reply _ hs (by simp)
  · split
    · exact h.reply _ hs (by simp [operation_bytes_length])
    · split
      · exact h.reply _ hs (by simp)
      · exact h.reply _ hs (by simp)
      · rename_i g p hslot
        have hstore : s.takeAsks.store = s.store := by simp
        split
        · rename_i hentries
          have hload : P (some o) (loadEffect p s.takeAsks) :=
            h.load (h.takeAsks hs) (takeAsks_asks s) (by simpa using hentries) (hstore ▸ hslot)
          exact h.settle (h.reply _ (h.hand hload _) (by simp [be32_length]))
        · exact h.reply _ hs (by simp)

end Orders

end Kept

end Sys2Proof.Proofs

namespace Sys2Proof.Proofs

open Sys2Proof Sys2Proof.Machine Sys2Proof.Laws

/-! ### The commands -/

/-- A reset has begun (R158): the link, of which a completed transmission may have been taken, is reset with the rest. -/
def BeginsReset (s t : State) : Prop :=
  ∃ (cause : ResetCause) (l : Link) (p : ResetUnit), p.inReset = true
    ∧ t = { ({ s with link := l } : State).beginReset cause with power := p }

/-- A reset leaves the transmitter idle with nothing to send. -/
theorem beginReset_transmit (s : State) (cause : ResetCause) : (s.beginReset cause).transmit = s.beginReset cause := rfl

namespace Kept

variable {P : Option Order → State → Prop} (h : Kept P)
include h

section Events

variable {s : State} (hs : P none s)
include hs

theorem passOver {w : RxWait} (n : Nat) (henabled : s.link.rxEnabled = true) (hwait : s.link.rxWait = some w) :
    P none (s.passOver w n) := by
  obtain ⟨-, ht⟩ | ⟨-, ht⟩ := passOver_cases s w n
  · rw [ht]
    exact h.waitQuiet _ _ hs henabled (.inr (by simp [hwait]))
  · rwa [ht]

theorem takeOrder {kind tag : Byte} {payload : List Byte} {body : Order → State → State}
    (hbody : ∀ o t, P (some o) t → P none (body o t)) : P none (s.takeOrder kind tag payload body) := by
  obtain ⟨-, ht⟩ | ⟨w, henabled, hwait, ht⟩ | ⟨-, -, -, ht⟩ | ⟨henabled, hwait, hroom, ht⟩ := takeOrder_cases s kind tag payload body
  all_goals rw [ht]
  case inl => exact hs
  case inr.inl => exact h.passOver hs _ henabled hwait
  case inr.inr.inl => exact h.discard hs
  case inr.inr.inr => exact hbody _ _ (h.enterWindow _ hs ⟨henabled, hwait, hroom⟩)

/-- A frame that arrives is of no order's kind, or an order of a length that its kind admits or not; those of an admitted length are
the 23 that follow, by their kind codes (R121, R164). -/
theorem frameArrival {kind tag : Byte} {payload : List Byte} {t : State} (hx : frameArrival kind tag payload s = .next t) :
    P none t := by
  unfold Machine.frameArrival at hx
  split at hx
  case h_24 =>
    cases hx
    exact h.takeOrder hs fun o u hu => h.reply _ hu (by simp)
  all_goals
    cases hx
    refine h.takeOrder hs fun o u hu => ?_
    split
    rotate_left
    · exact h.replyMalformed _ hu
  · exact h.reply _ hu (by simp [statusFields_length])
  · exact h.reply _ hu (by simpa [be32_length] using ‹payload.length ≤ 54›)
  · exact h.openOrder hu fun _ => sessionParams?_bounds
  · exact h.closeOrder hu
  · exact h.settleOrder hu fun _ _ hv hup he hstate => h.claimTaken hv hup he (of_decide_eq_true hstate)
  · exact h.settleOrder hu fun _ _ hv hup he hstate => h.releaseTaken hv hup he (of_decide_eq_true hstate)
  · exact h.settleOrder hu fun _ _ hv hup he hstate => h.returnTaken hv _ hup he (of_decide_eq_true hstate)
  · exact h.setSteerOrder hu ..
  · exact h.getSteerOrder hu _
  · exact h.setClassOrder hu ..
  · exact h.getClassOrder hu _
  · exact h.maskOrder hu ..
  · exact h.clearAlarmOrder hu
  · exact h.pairGrantOrder hu ..
  · exact h.reply _ hu (by simp [linesFields_length])
  · exact h.forceOrder hu ..
  · exact h.reply _ hu ((readFields_length_le _ _).trans (by decide))
  · exact h.trimOrder hu _
  · exact h.saveOrder hu _
  · exact h.loadOrder hu _
  · exact h.setBootOrder hu _
  · exact h.reply _ hu (by simp [profileFields_length])
  · exact h.reply _ hu (by simp [operation_bytes_length])

theorem orderRow {i : Instr} {f : Frame} {t : State} (hf : frameOf i = some f) (hx : exec i s = .next t) : P none t :=
  h.frameArrival hs (exec_eq_frameArrival hf s ▸ hx)

theorem takeByte {byte : Byte} {t : State} (henabled : s.link.rxEnabled = true) (hwait : s.link.rxWait = none)
    (hx : takeByte byte s = .next t) : P none t := by
  have hreceive : ∀ r, r ≠ .hunt → P none (s.receiveTo r) := fun r hr => h.receiveTo r hs henabled hwait hr
  unfold Machine.takeByte at hx
  split at hx
  case h_7 =>
    split at hx
    · exact h.frameArrival hs hx
    · cases hx
      exact h.frameFails hs
  all_goals cases hx
  case h_1 =>
    split
    · exact hreceive _ (by simp)
    · exact hs
  case h_2 =>
    split
    · exact hreceive _ (by simp)
    · exact h.frameFails hs
  case h_3 | h_6 => exact hreceive _ (by simp)
  case h_4 | h_5 => split <;> exact hreceive _ (by simp)

theorem byteReceived {byte : Byte} {t : State} (hx : execByteReceived byte s = .next t) : P none t := by
  unfold execByteReceived at hx
  split at hx
  · split at hx
    · cases hx
      exact h.passOver hs _ ‹_› ‹_›
    · exact h.takeByte hs ‹_› ‹_› hx
  · cases hx
    exact hs

theorem frameFailure {cause : WireFailure} {t : State} (hx : execFrameFailure cause s = .next t) : P none t := by
  unfold execFrameFailure at hx
  split at hx
  · rename_i henabled
    split at hx
    · rename_i w hwait
      cases hx
      split
      · exact h.waitQuiet _ _ hs henabled (.inr (by simp [hwait]))
      · exact hs
    · cases hx
      split
      · unfold State.characterError
        split
        · exact h.waitQuiet _ _ hs henabled (.inl ‹_›)
        · exact h.waitQuiet _ _ (h.frameFails hs) henabled (.inl rfl)
      · exact h.frameFails hs
  · cases hx
    exact hs

/-- The completion of a transmission is that of START, of an answer, which may begin a reset, or of a frame of the notice send list
(R68, R128, R134). -/
theorem transmissionCompletion {t : State} (hx : execTransmissionCompletion s = .next t) : P none t ∨ BeginsReset s t := by
  unfold execTransmissionCompletion at hx
  split at hx
  · rename_i x hsending
    split at hx
    · cases hx
      cases horigin : x.origin with
      | start =>
        have hsent := h.startSent hs hsending horigin
        exact .inl (h.transmit hsent)
      | answer o restarts =>
        cases restarts with
        | false =>
          have hsent := h.answerSent hs hsending horigin
          exact .inl (h.transmit hsent)
        | true =>
          exact .inr ⟨.restart, { s.link with tx := none, window := s.link.window.erase o }, _, rfl, beginReset_transmit _ _⟩
      | notice entry =>
        cases entry with
        | none => exact .inl (h.transmit (h.otherSent hs hsending (.inl horigin)))
        | some n => exact .inl (h.transmit (h.noticeSent hs hsending horigin))
      | overdue => exact .inl (h.transmit (h.otherSent hs hsending (.inr horigin)))
    · cases hx
      exact .inl hs
  · cases hx
    exact .inl hs

theorem qualificationTimerExpiry {i : SourceNo} {t : State} (hx : execQualificationTimerExpiry i s = .next t) : P none t := by
  unfold execQualificationTimerExpiry at hx
  split at hx
  · split at hx <;> cases hx
    · exact h.qualified hs ‹_›
    · exact hs
  · cases hx
    exact hs

theorem contributionReport {i : SourceNo} {t : State} (hx : execContributionReport i s = .next t) : P none t := by
  unfold execContributionReport at hx
  split at hx <;> cases hx
  · exact h.settle (h.takeReport hs (List.mem_of_find?_eq_some ‹_›))
  · exact hs

theorem deadlineExpiry {c : ClassNo} {t : State} (hx : execDeadlineExpiry c s = .next t) : P none t := by
  unfold execDeadlineExpiry at hx
  split at hx <;> cases hx
  · obtain ⟨x, hx, -⟩ := (due_iff _ _).mp ‹_›
    exact h.hand (h.deadline hs (by simp [hx])) _
  · exact hs

theorem holdExpiry {c : ClassNo} {t : State} (hx : execHoldExpiry c s = .next t) : P none t := by
  unfold execHoldExpiry at hx
  split at hx <;> cases hx
  · obtain ⟨x, hx, -⟩ := (due_iff _ _).mp ‹_›
    exact h.settle (h.hold hs (by simp [hx]))
  · exact hs

theorem answerTimerExpiry {n : Byte} {t : State} (hx : execAnswerTimerExpiry n s = .next t) : P none t := by
  have hloss := h.takeLoss hs
  unfold execAnswerTimerExpiry at hx
  dsimp only at hx
  split at hx
  · rename_i e he
    split at hx <;> cases hx
    · obtain ⟨x, hx, -⟩ := (due_iff _ _).mp ‹_›
      have hmem := mem_entries_of_entry? he
      unfold State.answerExpired
      dsimp only
      split
      · exact h.transmit (h.repeated hloss hmem (by simp [hx]) ‹_›)
      · exact h.exhausted hloss hmem (by simp [hx]) (Nat.lt_of_not_le ‹_›)
    · exact hloss
  · cases hx
    exact hloss

theorem serviceTimerExpiry {n : Byte} {t : State} (hx : execServiceTimerExpiry n s = .next t) : P none t := by
  unfold execServiceTimerExpiry at hx
  split at hx
  · rename_i e he
    split at hx <;> cases hx
    · obtain ⟨x, hx, -⟩ := (due_iff _ _).mp ‹_›
      rw [serviceExpired_eq_expireEffect]
      exact h.transmit (h.evalAttn (h.hand (h.expired hs (mem_entries_of_entry? he) (by simp [hx])) _))
    · exact hs
  · cases hx
    exact hs

theorem grantRequest {t : State} (hx : execGrantRequest s = .next t) : P none t := by
  unfold execGrantRequest at hx
  split at hx <;> cases hx
  · rename_i hasks
    obtain ⟨rest, hrest⟩ := List.head?_eq_some_iff.mp hasks
    exact h.takeAsk hs hrest
  · exact hs
  · exact hs

theorem grantEndRequest {t : State} (hx : execGrantEndRequest s = .next t) : P none t := by
  unfold execGrantEndRequest at hx
  split at hx <;> cases hx
  · rename_i hasks
    obtain ⟨rest, hrest⟩ := List.head?_eq_some_iff.mp hasks
    exact h.takeAsk hs hrest
  · exact hs
  · exact hs

theorem endOnWithdraw {i : SourceNo} {t : State} (hx : execEndOnWithdraw i s = .next t) : P none t := by
  unfold execEndOnWithdraw at hx
  split at hx <;> cases hx
  · exact h.takeWithdrawal hs (List.contains_iff_mem.mp ‹_›)
  · exact hs

theorem guardExpiry {g : LineNo} {t : State} (hx : execGuardExpiry g s = .next t) : P none t := by
  unfold execGuardExpiry at hx
  split at hx <;> cases hx
  · obtain ⟨x, hx, -⟩ := (due_iff _ _).mp ‹_›
    exact h.guardEnds hs (by simp [hx])
  · exact hs

theorem journalArrival {t : State} (hx : execJournalArrival s = .next t) : P none t := by
  unfold execJournalArrival at hx
  split at hx <;> cases hx
  · exact h.free _ _ s.choices s.pending s.session.attn hs
  · exact hs

theorem profileSaveCompletion {t : State} (hx : execProfileSaveCompletion s = .next t) : P none t := by
  unfold execProfileSaveCompletion at hx
  split at hx
  · split at hx <;> cases hx
    · exact h.reply _ (h.hand (h.saved hs ‹_›) _) (by simp [be32_length])
    · exact hs
  all_goals
    cases hx
    exact hs

theorem setBootCompletion {t : State} (hx : execSetBootCompletion s = .next t) : P none t := by
  unfold execSetBootCompletion at hx
  split at hx
  · split at hx <;> cases hx
    · exact h.reply _ (h.bootSet hs ‹_›) (by simp)
    · exact hs
  all_goals
    cases hx
    exact hs

/-- Every command keeps the property, begins a reset, or is start-up. -/
theorem exec_cases {i : Instr} {t : State} (hx : exec i s = .next t) :
    P none t ∨ BeginsReset s t ∨ (s.power.storeRead = true ∧ t = s.startUp) := by
  cases i with
  | frameFailure cause => exact .inl (h.frameFailure hs hx)
  | byteReceived byte => exact .inl (h.byteReceived hs hx)
  | transmissionCompletion => exact (h.transmissionCompletion hs hx).imp_right .inl
  | interByteGapExpiry =>
    left
    change execInterByteGapExpiry s = .next t at hx
    unfold execInterByteGapExpiry at hx
    split at hx <;> cases hx
    · exact h.frameFails hs
    · exact hs
  | rawLevelChange pin level =>
    left
    cases pin <;> cases hx
    · exact h.rawChange _ level hs
    · exact h.straps _ s.link.rateA hs
    · exact h.straps s.link.rateB _ hs
  | qualificationTimerExpiry i => exact .inl (h.qualificationTimerExpiry hs hx)
  | contributionReport i => exact .inl (h.contributionReport hs hx)
  | deadlineExpiry c => exact .inl (h.deadlineExpiry hs hx)
  | holdExpiry c => exact .inl (h.holdExpiry hs hx)
  | answerTimerExpiry n => exact .inl (h.answerTimerExpiry hs hx)
  | serviceTimerExpiry n => exact .inl (h.serviceTimerExpiry hs hx)
  | guardExpiry g => exact .inl (h.guardExpiry hs hx)
  | grantRequest => exact .inl (h.grantRequest hs hx)
  | grantEndRequest => exact .inl (h.grantEndRequest hs hx)
  | endOnWithdraw i => exact .inl (h.endOnWithdraw hs hx)
  | journalArrival => exact .inl (h.journalArrival hs hx)
  | sessionLost =>
    cases hx
    exact .inl (h.takeLoss hs)
  | profileSaveCompletion => exact .inl (h.profileSaveCompletion hs hx)
  | setBootCompletion => exact .inl (h.setBootCompletion hs hx)
  | powerOn =>
    cases hx
    exact .inr (.inl ⟨.powerOn, s.link, _, rfl, rfl⟩)
  | pinReset =>
    cases hx
    exact .inr (.inl ⟨.pin, s.link, _, rfl, rfl⟩)
  | supplyInRange | resetRelease =>
    cases hx
    exact .inl (h.power _ rfl hs)
  | startUp =>
    change execStartUp s = .next t at hx
    unfold execStartUp at hx
    split at hx <;> cases hx
    · exact .inr (.inr ⟨‹_›, rfl⟩)
    · exact .inl hs
  | _ => exact .inl (h.orderRow hs rfl hx)

/-- Every step keeps the property, if the passing of time does; or a reset begins, or it is start-up, once a command has left the
queue. -/
theorem step_cases {t : State} (htick : s.dueEvent = none → P none s.tick) (hx : step s = .next t) :
    P none t ∨ ∃ q, BeginsReset { s with pending := q } t
      ∨ (s.power.storeRead = true ∧ t = ({ s with pending := q } : State).startUp) := by
  unfold step at hx
  split at hx
  · unfold idle at hx
    split at hx
    · exact (h.exec_cases hs hx).imp_right fun hr => ⟨s.pending, hr⟩
    · cases hx
      exact .inl (htick ‹_›)
  · rename_i rest _
    exact (h.exec_cases (h.queue hs rest) hx).imp_right fun hr => ⟨rest, hr⟩

end Events

end Kept

end Sys2Proof.Proofs

/-! ## Grant lines, one record at a time

What a request, a withdrawal and a guard's end make of the record of each line. -/

namespace Sys2Proof.Proofs

open Sys2Proof Sys2Proof.Machine Sys2Proof.Laws

/-! ### The pairing stays -/

@[simp] theorem endGrant_pairing (r : LineRecord) (now : Time) : (r.endGrant now).pairing = r.pairing := by
  unfold LineRecord.endGrant
  split <;> rfl

@[simp] theorem finish_pairing (r : LineRecord) (now : Time) : (r.finish now).pairing = r.pairing := by
  unfold LineRecord.finish
  split
  · exact endGrant_pairing r now
  · split <;> rfl

@[simp] theorem grant_pairing (r : LineRecord) (n : Byte) : (r.grant n).pairing = r.pairing := by
  unfold LineRecord.grant
  split <;> rfl

@[simp] theorem guardEnds_pairing (r : LineRecord) : r.guardEnds.pairing = r.pairing := by
  unfold LineRecord.guardEnds
  split <;> rfl

@[simp] theorem repair_pairing (r : LineRecord) (p : Pairing) : (r.repair p).pairing = p := by
  unfold LineRecord.repair
  split <;> rfl

@[simp] theorem freshLine_pairing (p : Pairing) : (freshLine p).pairing = p := rfl

/-! ### What happens to each line -/

theorem source_of_pairedLine {s : State} {i : SourceNo} {g : LineNo} (h : s.pairedLine i = some g) :
    (s.line g).pairing.source = some i := by
  simpa using List.find?_some h

/-- A grant request leaves a line, or acts on it, and then it is paired with the source. -/
theorem takeGrant_line (s : State) (i : SourceNo) (n : Byte) (g : LineNo) :
    (s.takeGrant i n).line g = s.line g
    ∨ ((s.line g).pairing.source = some i ∧ (s.takeGrant i n).line g = (s.line g).grant n) := by
  obtain ⟨-, h⟩ | ⟨k, -, -, -, -, h⟩ | ⟨k, hk, -, h⟩ := takeGrant_cases s i n
  all_goals rw [h]
  case inl => exact .inl rfl
  case inr.inl => exact .inl rfl
  case inr.inr =>
    rw [setLine_line]
    split
    · subst_vars
      exact .inr ⟨source_of_pairedLine hk, rfl⟩
    · exact .inl rfl

/-- A request to end acts on exactly the lines that carry its number (R92). -/
theorem takeFinish_line (s : State) (n : Byte) (g : LineNo) :
    (s.takeFinish n).line g = if (s.line g).notice = some n then (s.line g).finish s.time else s.line g :=
  line_map s _ g

theorem takeWithdrawal_line (s : State) (i : SourceNo) (g : LineNo) :
    (s.takeWithdrawal i).line g = s.line g
    ∨ ((s.line g).pairing.source = some i ∧ (s.takeWithdrawal i).line g = (s.line g).finish s.time) := by
  unfold State.takeWithdrawal
  split
  · rename_i k hk
    split
    · have hline : (((s.setLine k ((s.line k).finish s.time)).handGrantEnd i k).line g)
          = (s.setLine k ((s.line k).finish s.time)).line g := rfl
      rw [hline, setLine_line]
      split
      · subst_vars
        exact .inr ⟨source_of_pairedLine hk, rfl⟩
      · exact .inl rfl
    · exact .inl rfl
  · exact .inl rfl

/-- A request keeps every property of the line records that a grant of the paired source and the end of a grant keep. -/
theorem takeAsk_line_keeps {P : LineNo → LineRecord → Prop} {s : State} (a : GrantAsk) (hs : ∀ g, P g (s.line g))
    (hgrant : ∀ i n g r, a = .grant i n → r.pairing.source = some i → P g r → P g (r.grant n))
    (hfinish : ∀ n g r, a = .finish n → r.notice = some n → P g r → P g (r.finish s.time)) (g : LineNo) :
    P g ((s.takeAsk a).line g) := by
  cases a with
  | grant i n =>
    obtain h | ⟨hsource, h⟩ := takeGrant_line s i n g
    · exact h ▸ hs g
    · exact h ▸ hgrant i n g _ rfl hsource (hs g)
  | finish n =>
    have h := takeFinish_line s n g
    rw [show s.takeAsk (.finish n) = s.takeFinish n from rfl, h]
    split
    · exact hfinish n g _ rfl ‹_› (hs g)
    · exact hs g

theorem takeAsk_line_pairing (s : State) (a : GrantAsk) (g : LineNo) : ((s.takeAsk a).line g).pairing = (s.line g).pairing :=
  takeAsk_line_keeps (P := fun g r => r.pairing = (s.line g).pairing) a (fun _ => rfl) (fun _ _ _ _ _ _ h => by simp [h])
    (fun _ _ _ _ _ h => by simp [h]) g

theorem takeWithdrawal_line_pairing (s : State) (i : SourceNo) (g : LineNo) :
    ((s.takeWithdrawal i).line g).pairing = (s.line g).pairing := by
  obtain h | ⟨-, h⟩ := takeWithdrawal_line s i g <;> simp [h]

theorem takeAsks_line_pairing (s : State) (g : LineNo) : (s.takeAsks.line g).pairing = (s.line g).pairing :=
  takeAsks_keeps_of_pop (P := fun t => (t.line g).pairing = (s.line g).pairing)
    (fun t a _ ht _ => (takeAsk_line_pairing t.popAsk a g).trans ht) rfl

@[simp] theorem teardown_lines (s : State) (x : EndCause) (k : RecordKind) (c : Option ClassNo) (n : Option Byte) :
    (s.teardown x k c n).lines = s.endGrants.lines := by
  simp [State.teardown]

theorem teardown_line_pairing (s : State) (x : EndCause) (k : RecordKind) (c : Option ClassNo) (n : Option Byte) (g : LineNo) :
    ((s.teardown x k c n).line g).pairing = (s.line g).pairing := by
  rw [line_congr (teardown_lines s x k c n), State.endGrants, takeAsks_line_pairing]
  rfl

end Sys2Proof.Proofs

/-! ## The tables and the store

The sharing rule and the pairing law, in the live tables, in the slots and in the snapshot being written. -/

namespace Sys2Proof.Proofs

open Sys2Proof Sys2Proof.Machine Sys2Proof.Laws

/-- The pairing law, read off the line records (R88). -/
theorem pairingLaw_lines {s : State} : PairingLaw (s.lines.map (·.pairing)) ↔
    ∀ g h, g ≠ h → (s.line g).pairing.source.isSome → (s.line g).pairing.source ≠ (s.line h).pairing.source := by
  simp [PairingLaw, State.line]

theorem pairingLaw_of_same {s t : State} (h : ∀ g, (t.line g).pairing = (s.line g).pairing)
    (hs : PairingLaw (s.lines.map (·.pairing))) : PairingLaw (t.lines.map (·.pairing)) := by
  rw [pairingLaw_lines] at hs ⊢
  simpa only [h] using hs

theorem tablesLaw_of_same {s t : State} (hs : TablesLaw s) (hsteering : t.steering = s.steering)
    (hlines : ∀ g, (t.line g).pairing = (s.line g).pairing) (hstore : t.store = s.store) : TablesLaw t := by
  obtain ⟨hsharing, hpairing, hslots, hoperation⟩ := hs
  exact ⟨hsteering ▸ hsharing, pairingLaw_of_same hlines hpairing, hstore ▸ hslots, hstore ▸ hoperation⟩

theorem tablesLaw_of_same_lines {s t : State} (hs : TablesLaw s) (hsteering : t.steering = s.steering) (hlines : t.lines = s.lines)
    (hstore : t.store = s.store) : TablesLaw t :=
  tablesLaw_of_same hs hsteering (fun g => by rw [line_congr hlines]) hstore

/-! ### Steering and pairing -/

/-- Without a conflict the proposed entry shares its class with no other source, or only among level and OFF sources (R21). -/
theorem not_conflict_iff {s : State} {i : SourceNo} {e : SteerEntry} : s.conflict i e = none ↔
    ∀ c, e.cls = some c → ∀ j, j ≠ i → (s.steer j).cls = some c → e.mode.isEdge = false ∧ (s.steer j).mode.isEdge = false := by
  unfold State.conflict State.othersIn State.members
  split
  · simp_all
  · rename_i c hc
    cases hedge : e.mode.isEdge <;> simp [hc]

theorem steerTo_steer (s : State) (i : SourceNo) (e : SteerEntry) (j : SourceNo) :
    (s.steerTo i e).steer j = if j = i then e else s.steer j := by
  have hreplace : ((s.replaceEntry i e).steer j) = (s.setSteer i e).steer j := by
    unfold State.replaceEntry
    split <;> rfl
  have hsame : (s.steerTo i e).steering = (s.replaceEntry i e).steering := by
    unfold State.steerTo
    dsimp only
    split <;> simp
  rw [steer_congr hsame, hreplace, setSteer_steer]

theorem sharingRule_steer {s : State} : SharingRule s.steering ↔
    ∀ i j, i ≠ j → (s.steer i).cls.isSome → (s.steer i).cls = (s.steer j).cls → (s.steer i).mode.isEdge = false := Iff.rfl

theorem sharingRule_steerTo {s : State} {i : SourceNo} {e : SteerEntry} (hs : SharingRule s.steering) (he : s.conflict i e = none) :
    SharingRule (s.steerTo i e).steering := by
  rw [sharingRule_steer] at hs ⊢
  rw [not_conflict_iff] at he
  intro j k hjk hsome hsame
  simp only [steerTo_steer] at hsome hsame ⊢
  by_cases hj : j = i
  · have hk : k ≠ i := fun hk => hjk (hj.trans hk.symm)
    rw [if_pos hj] at hsome ⊢
    rw [if_pos hj, if_neg hk] at hsame
    obtain ⟨c, hc⟩ := Option.isSome_iff_exists.mp hsome
    exact (he c hc k hk (hsame ▸ hc)).1
  · rw [if_neg hj] at hsome hsame ⊢
    by_cases hk : k = i
    · rw [if_pos hk] at hsame
      obtain ⟨c, hc⟩ := Option.isSome_iff_exists.mp hsome
      exact (he c (hsame ▸ hc) j hj hc).2
    · rw [if_neg hk] at hsame
      exact hs j k hjk hsome hsame

theorem not_otherHolder_iff {s : State} {g : LineNo} {p : Pairing} : s.otherHolder g p = none ↔
    ∀ i, p.source = some i → ∀ h, h ≠ g → (s.line h).pairing.source ≠ some i := by
  unfold State.otherHolder
  cases p.source <;> simp

theorem pairingLaw_repair {s : State} {g : LineNo} {p : Pairing} (hs : PairingLaw (s.lines.map (·.pairing)))
    (hfree : s.otherHolder g p = none) :
    PairingLaw ((s.setLine g ((s.line g).repair p)).lines.map (·.pairing)) := by
  rw [pairingLaw_lines] at hs ⊢
  rw [not_otherHolder_iff] at hfree
  intro j k hjk hsome
  simp only [setLine_line, apply_ite LineRecord.pairing, repair_pairing] at hsome ⊢
  by_cases hj : j = g
  · have hk : k ≠ g := fun hk => hjk (hj.trans hk.symm)
    rw [if_pos hj] at hsome
    rw [if_pos hj, if_neg hk]
    obtain ⟨i, hi⟩ := Option.isSome_iff_exists.mp hsome
    exact fun hsame => hfree i hi k hk (hsame ▸ hi)
  · rw [if_neg hj] at hsome ⊢
    by_cases hk : k = g
    · rw [if_pos hk]
      obtain ⟨i, hi⟩ := Option.isSome_iff_exists.mp hsome
      exact fun hsame => hfree i (hsame ▸ hi) j hj hi
    · rw [if_neg hk]
      exact hs j k hjk hsome

/-! ### Profiles put in force -/

/-- The profile that start-up puts in force is a slot's or the factory's, and both are lawful (R161). -/
theorem lawfulProfile_bootChoice {t : Store} (h : ∀ n, LawfulSlot (t.slot n)) : LawfulProfile t.bootChoice.2 := by
  have hfactory : LawfulProfile factoryProfile := by
    constructor <;> simp [factoryProfile, SharingRule, PairingLaw, factoryEntry, factoryPairing]
  unfold Store.bootChoice
  split
  · exact hfactory
  · rename_i n _
    have hslot := h n
    split
    · rename_i hvalid
      rwa [hvalid] at hslot
    all_goals exact hfactory

theorem loadTables_line_pairing (s : State) (p : Profile) (g : LineNo) : ((s.loadTables p).line g).pairing = p.pairings[g] := by
  simp [State.loadTables, State.line]

theorem pairingLaw_of_pairings {s : State} {v : Vector Pairing 8} (h : ∀ g, (s.line g).pairing = v[g]) (hv : PairingLaw v) :
    PairingLaw (s.lines.map (·.pairing)) := by
  rw [pairingLaw_lines]
  intro j k
  rw [h, h]
  exact hv j k

/-! ### Every operation -/

theorem kept_tablesLaw : Kept fun _ => TablesLaw where
  free _ _ _ _ _ hs := tablesLaw_of_same_lines hs rfl rfl rfl
  straps _ _ hs := tablesLaw_of_same_lines hs rfl rfl rfl
  power _ _ hs := tablesLaw_of_same_lines hs rfl rfl rfl
  waitQuiet _ _ hs _ _ := tablesLaw_of_same_lines hs rfl rfl rfl
  discard hs := tablesLaw_of_same_lines hs rfl rfl rfl
  enterWindow _ hs _ := tablesLaw_of_same_lines hs rfl rfl rfl
  frameFails hs := tablesLaw_of_same_lines hs rfl rfl rfl
  receiveTo _ hs _ _ _ := tablesLaw_of_same_lines hs rfl rfl rfl
  enqueue _ _ hs _ := tablesLaw_of_same_lines hs rfl rfl rfl
  sendStart hs _ := tablesLaw_of_same_lines hs rfl rfl rfl
  sendAnswer hs _ _ := tablesLaw_of_same_lines hs rfl rfl rfl
  sendNotice hs _ _ := tablesLaw_of_same_lines hs rfl rfl rfl
  startSent hs _ _ := tablesLaw_of_same_lines hs rfl rfl rfl
  answerSent hs _ _ := tablesLaw_of_same_lines hs rfl rfl rfl
  noticeSent hs _ _ := tablesLaw_of_same_lines hs rfl rfl rfl
  otherSent hs _ _ := tablesLaw_of_same_lines hs rfl rfl rfl
  rawChange _ _ hs := tablesLaw_of_same_lines hs (by simp) (by simp) (by simp)
  qualified hs _ := tablesLaw_of_same_lines hs (by simp) (by simp) (by simp)
  force hs _ _ := tablesLaw_of_same_lines hs (by simp) (by simp) (by simp)
  steerTo := by
    intro _ s i e ⟨hsharing, hpairing, hslots, hoperation⟩ _ _ hfree
    refine ⟨sharingRule_steerTo hsharing hfree, ?_, ?_, ?_⟩ <;> simpa
  takeReport hs _ := tablesLaw_of_same_lines hs (by simp) (by simp) (by simp)
  deadline hs _ := tablesLaw_of_same_lines hs rfl rfl rfl
  hold hs _ := tablesLaw_of_same_lines hs rfl rfl rfl
  withSettings _ hs _ := tablesLaw_of_same_lines hs rfl rfl rfl
  setMasks _ _ hs := tablesLaw_of_same_lines hs (by simp) (by simp) (by simp)
  alarmOff hs _ := tablesLaw_of_same_lines hs rfl rfl rfl
  createNotice hs _ := tablesLaw_of_same_lines hs (by simp) (by simp) (by simp)
  claim hs _ _ _ := tablesLaw_of_same_lines hs (by simp) (by simp) (by simp)
  release hs _ _ _ := tablesLaw_of_same_lines hs (by simp) (by simp) (by simp)
  returned _ hs _ _ _ := tablesLaw_of_same_lines hs rfl rfl rfl
  repeated hs _ _ _ := tablesLaw_of_same_lines hs rfl rfl rfl
  exhausted hs _ _ _ := tablesLaw_of_same_lines hs rfl rfl rfl
  expired hs _ _ := tablesLaw_of_same_lines hs rfl rfl rfl
  takeAsk {_ s a _} hs _ := tablesLaw_of_same (s := s.popAsk) hs (by simp) (takeAsk_line_pairing _ _) (by simp)
  takeWithdrawal {s i} hs _ :=
    tablesLaw_of_same (s := { s with flight := { s.flight with withdrawals := s.flight.withdrawals.erase i } }) hs (by simp)
      (takeWithdrawal_line_pairing _ _) (by simp)
  guardEnds {s g} hs _ := by
    refine tablesLaw_of_same hs rfl (fun h => ?_) rfl
    rw [setLine_line]
    split <;> simp_all
  repair := by
    intro _ s g p ⟨hsharing, hpairing, hslots, hoperation⟩ _ _ hfree
    exact ⟨hsharing, pairingLaw_repair hpairing hfree, hslots, hoperation⟩
  openWith hs _ _ _ := tablesLaw_of_same_lines hs rfl rfl rfl
  teardown _ _ _ _ hs _ := tablesLaw_of_same hs (by simp) (teardown_line_pairing _ _ _ _ _) (by simp)
  beginSave := by
    intro s o n ⟨hsharing, hpairing, hslots, _⟩ _
    refine ⟨hsharing, hpairing, fun m => ?_, hsharing, hpairing⟩
    change LawfulSlot ((s.store.setSlot n .invalid).slot m)
    rw [setSlot_slot]
    split
    · trivial
    · exact hslots m
  saved := by
    intro s n p o t ⟨hsharing, hpairing, hslots, hoperation⟩ hsave
    rw [hsave] at hoperation
    refine ⟨hsharing, hpairing, fun m => ?_, trivial⟩
    change LawfulSlot ((s.store.setSlot n (.valid _ p)).slot m)
    rw [setSlot_slot]
    split
    · exact hoperation
    · exact hslots m
  beginSetBoot := fun _ ⟨hsharing, hpairing, hslots, _⟩ _ => ⟨hsharing, hpairing, hslots, trivial⟩
  bootSet := fun ⟨hsharing, hpairing, hslots, _⟩ _ => ⟨hsharing, hpairing, hslots, trivial⟩
  load := by
    intro _ s n g p ⟨_, _, hslots, hoperation⟩ _ _ hslot
    have hprofile : LawfulProfile p := by
      have := hslots n
      rwa [hslot] at this
    exact ⟨hprofile.1, pairingLaw_of_pairings (loadTables_line_pairing s p) hprofile.2, hslots, hoperation⟩

theorem tablesLaw_beginsReset {s t : State} (hs : TablesLaw s) (ht : BeginsReset s t) : TablesLaw t := by
  obtain ⟨hsharing, hpairing, hslots, -⟩ := hs
  obtain ⟨cause, l, p, -, rfl⟩ := ht
  refine ⟨hsharing, pairingLaw_of_same (fun g => ?_) hpairing, hslots, trivial⟩
  simp [State.beginReset, State.line, LineRecord.inReset]

theorem tablesLaw_startUp {s : State} (hs : TablesLaw s) : TablesLaw s.startUp := by
  obtain ⟨-, -, hslots, hoperation⟩ := hs
  have hprofile := lawfulProfile_bootChoice hslots
  let loaded : State := (({ s.leaveReset with
    store := { s.leaveReset.store with bootOutcome := s.store.bootChoice.1 } } : State).loadTables s.store.bootChoice.2)
  have hloaded : TablesLaw loaded :=
    ⟨hprofile.1, pairingLaw_of_pairings (loadTables_line_pairing _ _) hprofile.2, hslots, hoperation⟩
  exact kept_tablesLaw.transmit hloaded

/-- Settles O6: `kept_tablesLaw` goes through the operations of which the commands are made; a reset keeps the tables, and start-up
puts a lawful profile in force. -/
theorem tablesLawKeptByEveryStep : Obligations.TablesLawKeptByEveryStep := by
  intro s t hs hstep
  have htick : TablesLaw s.tick := by
    unfold State.tick
    split
    · exact hs
    · exact tablesLaw_of_same_lines hs rfl rfl rfl
  obtain ht | ⟨q, ht | ⟨-, rfl⟩⟩ := kept_tablesLaw.step_cases hs (fun _ => htick) hstep
  · exact ht
  · exact tablesLaw_beginsReset (kept_tablesLaw.queue (w := none) hs q) ht
  · exact tablesLaw_startUp (kept_tablesLaw.queue (w := none) hs q)

end Sys2Proof.Proofs

/-! ## The Profile Store

The generation that a save takes, and the laws of the slots and of the operation in progress. -/

namespace Sys2Proof.Proofs

open Sys2Proof Sys2Proof.Machine Sys2Proof.Laws

/-! ### The generation of a save (R153) -/

theorem nextGeneration_toNat (g : BitVec 32) : (nextGeneration g).toNat = g.toNat % 4294967295 + 1 := by
  unfold nextGeneration
  split
  next hlast => rw [hlast]; rfl
  next hother => bv_omega

/-- The generations that follow go round 1 to 4,294,967,295. -/
theorem iterate_nextGeneration_toNat (g : BitVec 32) (k : Nat) :
    (nextGeneration^[k + 1] g).toNat = (g.toNat + k) % 4294967295 + 1 := by
  induction k with
  | zero => exact nextGeneration_toNat g
  | succ k ih =>
    rw [Function.iterate_succ_apply', nextGeneration_toNat, ih]
    omega

theorem iterate_nextGeneration_ne_zero (g : BitVec 32) (k : Nat) : nextGeneration^[k + 1] g ≠ 0 := by
  intro hzero
  have hvalue := iterate_nextGeneration_toNat g k
  rw [hzero] at hvalue
  exact Nat.succ_ne_zero _ hvalue.symm

theorem holdsGeneration_iff {t : Store} {g : BitVec 32} : t.holdsGeneration g = true ↔ ∃ n p, t.slot n = .valid g p := by
  simp only [Store.holdsGeneration, List.any_eq_true, mem_allSlots, true_and]
  refine exists_congr fun n => ?_
  cases t.slot n <;> simp

/-- Four slots cannot hold all of five generations that follow each other. -/
theorem exists_free_generation (t : Store) (g : BitVec 32) : ∃ k ≤ 4, t.holdsGeneration (nextGeneration^[k + 1] g) = false := by
  by_contra! hheld
  have hslot : ∀ k : Fin 5, ∃ n p, t.slot n = .valid (nextGeneration^[k.val + 1] g) p := fun k =>
    holdsGeneration_iff.mp (by simpa using hheld k (by omega))
  choose slot p hp using hslot
  obtain ⟨j, k, hne, hsame⟩ := Fintype.exists_ne_map_eq_of_card_lt slot (by decide)
  have heq := (hp j).symm.trans (hsame ▸ hp k)
  have hvalue : (nextGeneration^[j.val + 1] g).toNat = (nextGeneration^[k.val + 1] g).toNat :=
    congrArg BitVec.toNat (Slot.valid.inj heq).1
  rw [iterate_nextGeneration_toNat, iterate_nextGeneration_toNat] at hvalue
  exact hne (Fin.ext (by omega))

/-- The search stops at the first generation that no VALID slot holds, if it lies within its reach. -/
theorem freeGeneration_eq {t : Store} {fuel k : Nat} {g : BitVec 32} (hk : k ≤ fuel)
    (hfree : t.holdsGeneration (nextGeneration^[k] g) = false)
    (hheld : ∀ j < k, t.holdsGeneration (nextGeneration^[j] g) = true) : t.freeGeneration fuel g = nextGeneration^[k] g := by
  induction k generalizing fuel g with
  | zero =>
    cases fuel with
    | zero => rfl
    | succ fuel =>
      rw [Function.iterate_zero, id_eq] at hfree
      simp only [Store.freeGeneration, hfree, Bool.false_eq_true, if_false, Function.iterate_zero, id_eq]
  | succ k ih =>
    obtain ⟨fuel, rfl⟩ : ∃ m, fuel = m + 1 := ⟨fuel - 1, by omega⟩
    have hsome : t.holdsGeneration g = true := hheld 0 (Nat.succ_pos k)
    simp only [Store.freeGeneration, hsome, if_true]
    exact ih (Nat.le_of_succ_le_succ hk) hfree fun j hj => hheld (j + 1) (Nat.succ_lt_succ hj)

/-- R153: a save takes the first generation past the last one that no VALID slot holds. -/
theorem freeGeneration_spec (t : Store) (g : BitVec 32) :
    ∃ k, t.freeGeneration 4 (nextGeneration g) = nextGeneration^[k + 1] g
      ∧ t.holdsGeneration (nextGeneration^[k + 1] g) = false
      ∧ ∀ j < k, t.holdsGeneration (nextGeneration^[j + 1] g) = true := by
  obtain ⟨reach, hreach, hfreeReach⟩ := exists_free_generation t g
  have hexists : ∃ k, t.holdsGeneration (nextGeneration^[k + 1] g) = false := ⟨reach, hfreeReach⟩
  have hfirst : Nat.find hexists ≤ 4 := (Nat.find_min' hexists hfreeReach).trans hreach
  have hheld : ∀ j < Nat.find hexists, t.holdsGeneration (nextGeneration^[j + 1] g) = true := by
    intro j hj
    simpa using Nat.find_min hexists hj
  exact ⟨_, freeGeneration_eq (g := nextGeneration g) hfirst (Nat.find_spec hexists) hheld, Nat.find_spec hexists, hheld⟩

/-! ### The laws of the store -/

theorem storeLaw_of_same {s t : State} (hs : StoreLaw s) (hstore : t.store = s.store) : StoreLaw t := by
  unfold StoreLaw at hs ⊢
  rwa [hstore]

theorem storeLaw_beginSave {s : State} (hs : StoreLaw s) (o : Order) (n : SlotNo) : StoreLaw (s.beginSave o n) := by
  obtain ⟨hpositive, hdistinct, -, -⟩ := hs
  have hslot : ∀ m, (s.beginSave o n).store.slot m = if m = n then .invalid else s.store.slot m := (setSlot_slot s.store n · .invalid)
  refine ⟨fun m g p hm => ?_, fun m k g h p q hmk hm hk => ?_, fun m p o' t hsave => ?_, fun _ _ _ hboot => by cases hboot⟩
  · rw [hslot] at hm
    split at hm
    · cases hm
    · exact hpositive m g p hm
  · rw [hslot] at hm hk
    split at hm
    · cases hm
    · split at hk
      · cases hk
      · exact hdistinct m k g h p q hmk hm hk
  · obtain ⟨rfl, -⟩ := Operation.save.inj hsave
    rw [hslot, if_pos rfl]

/-- A save completes with a generation that no other VALID slot holds, so VALID slots go on holding distinct ones. -/
theorem storeLaw_saved {s : State} (hs : StoreLaw s) (n : SlotNo) (p : Profile) :
    StoreLaw { s with store :=
      { s.store.setSlot n (.valid (s.store.freeGeneration 4 (nextGeneration s.store.generation)) p) with
        generation := s.store.freeGeneration 4 (nextGeneration s.store.generation), operation := .none } } := by
  obtain ⟨hpositive, hdistinct, -, -⟩ := hs
  obtain ⟨k, hg, hfree, -⟩ := freeGeneration_spec s.store s.store.generation
  have hnew : s.store.freeGeneration 4 (nextGeneration s.store.generation) ≠ 0 := hg ▸ iterate_nextGeneration_ne_zero _ k
  have hother : ∀ m h q, s.store.slot m = .valid h q → h ≠ s.store.freeGeneration 4 (nextGeneration s.store.generation) := by
    rintro m h q hm rfl
    rw [← hg] at hfree
    simp [holdsGeneration_iff.mpr ⟨m, q, hm⟩] at hfree
  generalize s.store.freeGeneration 4 (nextGeneration s.store.generation) = g at hnew hother
  refine ⟨fun m h q hm => ?_, fun m k h i q r hmk hm hk => ?_, fun _ _ _ _ hsave => (by cases hsave), fun _ _ _ hboot => by cases hboot⟩
  · change (s.store.setSlot n (.valid g p)).slot m = _ at hm
    rw [setSlot_slot] at hm
    split at hm
    · obtain ⟨rfl, -⟩ := Slot.valid.inj hm
      exact hnew
    · exact hpositive m h q hm
  · change (s.store.setSlot n (.valid g p)).slot m = _ at hm
    change (s.store.setSlot n (.valid g p)).slot k = _ at hk
    rw [setSlot_slot] at hm hk
    split at hm
    · rw [if_neg (by rintro rfl; simp_all)] at hk
      obtain ⟨rfl, -⟩ := Slot.valid.inj hm
      exact (hother k i r hk).symm
    · split at hk
      · obtain ⟨rfl, -⟩ := Slot.valid.inj hk
        exact hother m h q hm
      · exact hdistinct m k h i q r hmk hm hk

theorem kept_storeLaw : Kept fun _ => StoreLaw where
  free _ _ _ _ _ hs := storeLaw_of_same hs rfl
  straps _ _ hs := storeLaw_of_same hs rfl
  power _ _ hs := storeLaw_of_same hs rfl
  waitQuiet _ _ hs _ _ := storeLaw_of_same hs rfl
  discard hs := storeLaw_of_same hs rfl
  enterWindow _ hs _ := storeLaw_of_same hs rfl
  frameFails hs := storeLaw_of_same hs rfl
  receiveTo _ hs _ _ _ := storeLaw_of_same hs rfl
  enqueue _ _ hs _ := storeLaw_of_same hs rfl
  sendStart hs _ := storeLaw_of_same hs rfl
  sendAnswer hs _ _ := storeLaw_of_same hs rfl
  sendNotice hs _ _ := storeLaw_of_same hs rfl
  startSent hs _ _ := storeLaw_of_same hs rfl
  answerSent hs _ _ := storeLaw_of_same hs rfl
  noticeSent hs _ _ := storeLaw_of_same hs rfl
  otherSent hs _ _ := storeLaw_of_same hs rfl
  rawChange _ _ hs := storeLaw_of_same hs (by simp)
  qualified hs _ := storeLaw_of_same hs (by simp)
  force hs _ _ := storeLaw_of_same hs (by simp)
  steerTo hs _ _ _ := storeLaw_of_same hs (by simp)
  takeReport hs _ := storeLaw_of_same hs (by simp)
  deadline hs _ := storeLaw_of_same hs rfl
  hold hs _ := storeLaw_of_same hs rfl
  withSettings _ hs _ := storeLaw_of_same hs rfl
  setMasks _ _ hs := storeLaw_of_same hs (by simp)
  alarmOff hs _ := storeLaw_of_same hs rfl
  createNotice hs _ := storeLaw_of_same hs (by simp)
  claim hs _ _ _ := storeLaw_of_same hs (by simp)
  release hs _ _ _ := storeLaw_of_same hs (by simp)
  returned _ hs _ _ _ := storeLaw_of_same hs (by simp)
  repeated hs _ _ _ := storeLaw_of_same hs rfl
  exhausted hs _ _ _ := storeLaw_of_same hs rfl
  expired hs _ _ := storeLaw_of_same hs (by simp)
  takeAsk hs _ := storeLaw_of_same hs (by simp)
  takeWithdrawal hs _ := storeLaw_of_same hs (by simp)
  guardEnds hs _ := storeLaw_of_same hs rfl
  repair hs _ _ _ := storeLaw_of_same hs rfl
  openWith hs _ _ _ := storeLaw_of_same hs (by simp)
  teardown _ _ _ _ hs _ := storeLaw_of_same hs (by simp)
  beginSave hs _ := storeLaw_beginSave hs _ _
  saved hs _ := storeLaw_saved hs _ _
  beginSetBoot := fun _ ⟨hpositive, hdistinct, _, _⟩ _ =>
    ⟨hpositive, hdistinct, fun _ _ _ _ hsave => (by cases hsave), fun _ _ _ _ => rfl⟩
  bootSet := fun ⟨hpositive, hdistinct, _, _⟩ _ =>
    ⟨hpositive, hdistinct, fun _ _ _ _ hsave => (by cases hsave), fun _ _ _ hboot => by cases hboot⟩
  load hs _ _ _ := storeLaw_of_same hs (by simp)

theorem storeLaw_beginsReset {s t : State} (hs : StoreLaw s) (ht : BeginsReset s t) : StoreLaw t := by
  obtain ⟨hpositive, hdistinct, -, -⟩ := hs
  obtain ⟨cause, l, p, -, rfl⟩ := ht
  exact ⟨hpositive, hdistinct, fun _ _ _ _ hsave => (by cases hsave), fun _ _ _ hboot => by cases hboot⟩

theorem startUp_store (s : State) :
    s.startUp.store = { s.store with resetCause := s.power.cause, bootOutcome := s.store.bootChoice.1 } := by
  simp [State.startUp, State.enableReceiver, State.journalStartUp, State.leaveReset]

/-- Settles O13: `kept_storeLaw` goes through the operations; a reset ends the one in progress, and start-up leaves the slots. -/
theorem storeLawKeptByEveryStep : Obligations.StoreLawKeptByEveryStep := by
  intro s t hs hstep
  have htick : StoreLaw s.tick := by
    unfold State.tick
    split
    · exact hs
    · exact storeLaw_of_same hs rfl
  obtain ht | ⟨q, ht | ⟨-, rfl⟩⟩ := kept_storeLaw.step_cases hs (fun _ => htick) hstep
  · exact ht
  · exact storeLaw_beginsReset (kept_storeLaw.queue (w := none) hs q) ht
  · have hstore := startUp_store { s with pending := q }
    unfold StoreLaw
    rw [hstore]
    exact hs

end Sys2Proof.Proofs

/-! ## The link

The order window against the answers that are queued, being sent, held back or still to be built, and the receiver's states. -/

namespace Sys2Proof.Proofs

open Sys2Proof Sys2Proof.Machine Sys2Proof.Laws

/-- The laws of the link while the orders `w` stand in the window whose answers have not been built yet (R122). -/
def LinkLawWith (w : Option Order) (s : State) : Prop :=
  s.link.window.length ≤ 4
  ∧ s.link.window.Perm
      (s.link.answers.map (·.order) ++ sendingOrders s.link.tx ++ heldOrders s.store.operation ++ w.toList)
  ∧ (s.link.rxTimer.isSome ↔ s.link.rx ≠ .hunt)
  ∧ s.link.rxEnabled = !s.power.inReset
  ∧ (s.link.rxWait.isSome → s.link.rxEnabled = true)
  ∧ (s.link.rxWait.isSome ∨ s.link.rxEnabled = false → s.link.rx = .hunt)

theorem linkLawWith_none {s : State} : LinkLawWith none s ↔ LinkLaw s := by
  simp [LinkLawWith, LinkLaw]

theorem enabled_of_wait {w : Option Order} {s : State} (hs : LinkLawWith w s) (hwait : s.link.rxWait.isSome) :
    s.link.rxEnabled = true := by
  obtain ⟨-, -, -, -, henabled, -⟩ := hs
  exact henabled hwait

/-! ### What the laws depend on -/

/-- The laws speak of the link, of a frame in transmission only the order it answers, of the operation and of the reset. -/
theorem linkLawWith_of_same_orders {w : Option Order} {s t : State} (hs : LinkLawWith w s)
    (hlink : t.link = { s.link with tx := t.link.tx }) (hsending : sendingOrders t.link.tx = sendingOrders s.link.tx)
    (hoperation : t.store.operation = s.store.operation) (hreset : t.power.inReset = s.power.inReset) : LinkLawWith w t := by
  unfold LinkLawWith at hs ⊢
  rw [hsending, hoperation, hreset, hlink]
  exact hs

theorem linkLawWith_of_same {w : Option Order} {s t : State} (hs : LinkLawWith w s) (hlink : t.link = s.link)
    (hstore : t.store = s.store) (hpower : t.power = s.power) : LinkLawWith w t :=
  linkLawWith_of_same_orders hs (by rw [hlink]) (by rw [hlink]) (by rw [hstore]) (by rw [hpower])

@[simp] theorem detach_ends (t : Sending) (gone : Byte → Bool) : (t.detach gone).ends = t.ends := by
  unfold Sending.detach
  split
  · split <;> rfl
  · rfl

/-- A frame that loses its entry is no answer. -/
theorem sendingOrders_detach (tx : Option Sending) (gone : Byte → Bool) :
    sendingOrders (tx.map fun t => t.detach gone) = sendingOrders tx := by
  cases tx with
  | none => rfl
  | some t =>
    obtain ⟨frame, origin, ends⟩ := t
    cases origin with
    | notice entry =>
      cases entry with
      | none => rfl
      | some n =>
        simp only [Option.map_some, Sending.detach]
        split <;> rfl
    | start | answer _ _ | overdue => rfl

theorem releaseEffect_link (e : NoticeEntry) (s : State) :
    (releaseEffect e s).link = { s.link with tx := s.link.tx.map fun t => t.detach fun m => m == e.number } := by
  unfold releaseEffect
  split <;> rfl

theorem returnEffect_link (hold : Half) (e : NoticeEntry) (s : State) :
    (returnEffect hold e s).link = { s.link with tx := s.link.tx.map fun t => t.detach fun m => m == e.number } := rfl

theorem teardown_link (s : State) (x : EndCause) (k : RecordKind) (c : Option ClassNo) (n : Option Byte) :
    (s.teardown x k c n).link = { s.link with tx := s.link.tx.map fun t => t.detach fun _ => true } := by
  simp [State.teardown, State.detach]

/-! ### Orders and their answers -/

section Orders

variable {s : State} {o : Order}

theorem linkLawWith_enterWindow (hs : LinkLawWith none s) (o : Order) (hadmits : s.admits) :
    LinkLawWith (some o) (s.enterWindow o) := by
  obtain ⟨-, hperm, -, henabled, hwait, -⟩ := hs
  obtain ⟨hon, hnowait, hroom⟩ := hadmits
  refine ⟨?_, ?_, by simp [State.enterWindow], henabled, hwait, fun _ => rfl⟩
  · simpa [State.enterWindow] using hroom
  · simpa [State.enterWindow] using hperm.append_right [o]

theorem linkLawWith_enqueue (hs : LinkLawWith (some o) s) (r : Result) (f : List Byte) : LinkLawWith none (s.enqueue o r f) := by
  obtain ⟨hlength, hperm, hrest⟩ := hs
  refine ⟨hlength, List.perm_iff_count.mpr fun x => ?_, hrest⟩
  have := hperm.count_eq x
  simp only [State.enqueue, List.map_append, List.count_append, List.map_cons, List.map_nil, Option.toList_some,
    Option.toList_none, List.count_nil] at this ⊢
  omega

theorem linkLawWith_sendAnswer {a : Answer} {rest : List Answer} (hs : LinkLawWith none s) (hidle : s.link.tx = none)
    (hanswers : s.link.answers = a :: rest) : LinkLawWith none (s.sendAnswer a rest) := by
  obtain ⟨hlength, hperm, hrest⟩ := hs
  refine ⟨hlength, List.perm_iff_count.mpr fun x => ?_, hrest⟩
  have := hperm.count_eq x
  have hcons := List.count_append (a := x) (l₁ := [a.order]) (l₂ := rest.map (·.order))
  simp only [List.singleton_append] at hcons
  simp only [hidle, hanswers, State.sendAnswer, State.send, sendingOrders, List.map_cons, List.count_append, List.count_nil, hcons]
    at this ⊢
  omega

theorem linkLawWith_answerSent {t : Sending} (hs : LinkLawWith none s) (hsending : s.link.tx = some t)
    (horigin : t.origin = .answer o false) :
    LinkLawWith none { s with link := { s.link with tx := none, window := s.link.window.erase o } } := by
  obtain ⟨hlength, hperm, hrest⟩ := hs
  refine ⟨List.length_erase_le.trans hlength, List.perm_iff_count.mpr fun x => ?_, hrest⟩
  have := hperm.count_eq x
  simp only [hsending, sendingOrders, horigin, List.count_append, List.count_nil, List.count_erase, List.count_singleton] at this ⊢
  omega

/-- A frame that is no answer ends and leaves the window as it is. -/
theorem linkLawWith_sent {t : Sending} {startPending : Bool} (hs : LinkLawWith none s) (hsending : s.link.tx = some t)
    (horigin : sendingOrders (some t) = []) :
    LinkLawWith none { s with link := { s.link with tx := none, startPending := startPending } } := by
  obtain ⟨hlength, hperm, hrest⟩ := hs
  rw [hsending, horigin] at hperm
  exact ⟨hlength, hperm, hrest⟩

/-- A frame that is no answer begins and leaves the window as it is. -/
theorem linkLawWith_send (hs : LinkLawWith none s) (hidle : s.link.tx = none) (f : Frame) {origin : Origin}
    (horigin : ∀ x b, origin ≠ .answer x b) : LinkLawWith none (s.send f origin) := by
  refine linkLawWith_of_same_orders hs rfl ?_ rfl rfl
  rw [hidle]
  cases origin with
  | answer x b => exact absurd rfl (horigin x b)
  | start | notice _ | overdue => rfl

theorem linkLawWith_hold {operation : Operation} (hs : LinkLawWith (some o) s) (hnone : s.store.operation = .none) {t : State}
    (hlink : t.link = s.link) (hpower : t.power = s.power) (hoperation : t.store.operation = operation)
    (hheld : heldOrders operation = [o]) : LinkLawWith none t := by
  unfold LinkLawWith at hs ⊢
  rw [hlink, hpower, hoperation, hheld]
  rw [hnone] at hs
  simpa [heldOrders] using hs

theorem linkLawWith_unhold {operation : Operation} (hs : LinkLawWith none s) (hoperation : s.store.operation = operation) {t : State}
    (hlink : t.link = s.link) (hpower : t.power = s.power) (hnone : t.store.operation = .none)
    (hheld : heldOrders operation = [o]) : LinkLawWith (some o) t := by
  unfold LinkLawWith at hs ⊢
  rw [hlink, hpower, hnone]
  rw [hoperation, hheld] at hs
  simpa [heldOrders] using hs

end Orders

/-! ### The receiver -/

theorem linkLawWith_hunt {s t : State} (hs : LinkLawWith none s) (hlink : t.link = { s.link with
      rx := .hunt, rxTimer := none, rxWait := t.link.rxWait, frameErrors := t.link.frameErrors, overrun := t.link.overrun })
    (hwait : t.link.rxWait.isSome → s.link.rxEnabled = true) (hstore : t.store = s.store) (hpower : t.power = s.power) :
    LinkLawWith none t := by
  obtain ⟨hlength, hperm, -, henabled, -, -⟩ := hs
  unfold LinkLawWith
  rw [hstore, hpower]
  generalize hw : t.link.rxWait = wait at hlink hwait
  rw [hlink]
  exact ⟨hlength, hperm, by simp, henabled, hwait, fun _ => rfl⟩

theorem linkLawWith_waitQuiet {s : State} (hs : LinkLawWith none s) (q : Quiet) (n : Nat) (henabled : s.link.rxEnabled = true)
    (hhunt : s.link.rx = .hunt ∨ s.link.rxWait.isSome) : LinkLawWith none (s.waitQuiet q n) := by
  obtain ⟨hlength, hperm, htimer, hreset, -, hstands⟩ := hs
  have hrx : s.link.rx = .hunt := hhunt.elim id fun hwait => hstands (.inl hwait)
  exact ⟨hlength, hperm, htimer, hreset, fun _ => henabled, fun _ => hrx⟩

theorem linkLawWith_receiveTo {s : State} (hs : LinkLawWith none s) {r : Receive} (henabled : s.link.rxEnabled = true)
    (hwait : s.link.rxWait = none) (hr : r ≠ .hunt) : LinkLawWith none (s.receiveTo r) := by
  obtain ⟨hlength, hperm, -, hreset, hon, -⟩ := hs
  refine ⟨hlength, hperm, by simpa [State.receiveTo] using hr, hreset, hon, fun h => ?_⟩
  simp [State.receiveTo, henabled, hwait] at h

/-! ### Every operation -/

theorem kept_linkLaw : Kept LinkLawWith where
  free _ _ _ _ _ hs := linkLawWith_of_same hs rfl rfl rfl
  straps _ _ hs := hs
  power _ hreset hs := linkLawWith_of_same_orders hs rfl rfl rfl hreset
  waitQuiet q n hs henabled hhunt := linkLawWith_waitQuiet hs q n henabled hhunt
  discard hs := linkLawWith_hunt hs rfl (fun hwait => enabled_of_wait hs hwait) rfl rfl
  enterWindow o hs hadmits := linkLawWith_enterWindow hs o hadmits
  frameFails hs := linkLawWith_hunt hs rfl (fun hwait => enabled_of_wait hs hwait) rfl rfl
  receiveTo _ hs henabled hwait hr := linkLawWith_receiveTo hs henabled hwait hr
  enqueue r f hs _ := linkLawWith_enqueue hs r f
  sendStart hs hidle := linkLawWith_send hs hidle _ nofun
  sendAnswer hs hidle hanswers := linkLawWith_sendAnswer hs hidle hanswers
  sendNotice {s f} hs hidle _ := by
    refine linkLawWith_send (s := { s with dispatcher := { s.dispatcher with sendList := s.dispatcher.sendList.erase f } })
      (linkLawWith_of_same hs rfl rfl rfl) hidle _ fun x b => ?_
    cases f.kind <;> nofun
  startSent hs hsending horigin := linkLawWith_sent hs hsending (by simp [sendingOrders, horigin])
  answerSent hs hsending horigin := linkLawWith_answerSent hs hsending horigin
  noticeSent hs hsending horigin :=
    linkLawWith_of_same (linkLawWith_sent hs hsending (by simp [sendingOrders, horigin])) rfl rfl rfl
  otherSent hs hsending horigin :=
    linkLawWith_sent hs hsending (by obtain horigin | horigin := horigin <;> simp [sendingOrders, horigin])
  rawChange _ _ hs := linkLawWith_of_same hs (by simp) (by simp) (by simp)
  qualified hs _ := linkLawWith_of_same hs (by simp) (by simp) (by simp)
  force hs _ _ := linkLawWith_of_same hs (by simp) (by simp) (by simp)
  steerTo hs _ _ _ := linkLawWith_of_same hs (by simp) (by simp) (by simp)
  takeReport hs _ := linkLawWith_of_same hs (by simp) (by simp) (by simp)
  deadline hs _ := linkLawWith_of_same hs rfl rfl rfl
  hold hs _ := linkLawWith_of_same hs rfl rfl rfl
  withSettings _ hs _ := linkLawWith_of_same hs rfl rfl rfl
  setMasks _ _ hs := linkLawWith_of_same hs (by simp) (by simp) (by simp)
  alarmOff hs _ := linkLawWith_of_same hs rfl rfl rfl
  createNotice hs _ := linkLawWith_of_same hs (by simp) (by simp) (by simp)
  claim hs _ _ _ := linkLawWith_of_same hs (by simp) (by simp) (by simp)
  release {_ _ e} hs _ _ _ :=
    linkLawWith_of_same_orders hs (by rw [releaseEffect_link]) (by rw [releaseEffect_link, sendingOrders_detach]) (by simp) (by simp)
  returned _ hs _ _ _ :=
    linkLawWith_of_same_orders hs (by rw [returnEffect_link]) (by rw [returnEffect_link, sendingOrders_detach]) (by simp) (by simp)
  repeated hs _ _ _ := linkLawWith_of_same hs rfl rfl rfl
  exhausted hs _ _ _ := linkLawWith_of_same hs rfl rfl rfl
  expired hs _ _ := linkLawWith_of_same hs (by simp) (by simp) (by simp)
  takeAsk hs _ := linkLawWith_of_same hs (by simp) (by simp) (by simp)
  takeWithdrawal hs _ := linkLawWith_of_same hs (by simp) (by simp) (by simp)
  guardEnds hs _ := linkLawWith_of_same hs rfl rfl rfl
  repair hs _ _ _ := linkLawWith_of_same hs rfl rfl rfl
  openWith hs _ _ _ := linkLawWith_of_same hs (by simp) (by simp) (by simp)
  teardown _ _ _ _ hs _ :=
    linkLawWith_of_same_orders hs (by rw [teardown_link]) (by rw [teardown_link, sendingOrders_detach]) (by simp) (by simp)
  beginSave hs hnone := linkLawWith_hold hs hnone rfl rfl rfl rfl
  saved hs hoperation := linkLawWith_unhold hs hoperation rfl rfl rfl rfl
  beginSetBoot _ hs hnone := linkLawWith_hold hs hnone rfl rfl rfl rfl
  bootSet hs hoperation := linkLawWith_unhold hs hoperation rfl rfl rfl rfl
  load hs _ _ _ := linkLawWith_of_same hs (by simp) (by simp) (by simp)

theorem linkLaw_beginsReset {s t : State} (ht : BeginsReset s t) : LinkLawWith none t := by
  obtain ⟨cause, l, p, hreset, rfl⟩ := ht
  exact ⟨by simp [State.beginReset, Link.inReset], .nil, by simp [State.beginReset, Link.inReset],
    by simp [hreset, State.beginReset, Link.inReset], nofun, fun _ => rfl⟩

/-- The state that start-up has made when the transmitter arbiter runs (R160). -/
theorem startUp_eq (s : State) : s.startUp = (((({ s.leaveReset with
      store := { s.leaveReset.store with bootOutcome := s.store.bootChoice.1 } } : State).loadTables
      s.store.bootChoice.2).journalStartUp.loadClasses s.store.bootChoice.2).evalAttn.enableReceiver |> fun s =>
        ({ s with link := { s.link with startPending := true } } : State)).transmit := rfl

theorem linkLaw_startUp {s : State} (hs : LinkLawWith none s) (hread : s.power.storeRead = true) : LinkLawWith none s.startUp := by
  obtain ⟨hlength, hperm, htimer, henabled, -, hstands⟩ := hs
  have hreset : s.power.inReset = true := by
    simp only [ResetUnit.storeRead, Bool.and_eq_true] at hread
    exact hread.1.1
  have hhunt : s.link.rx = .hunt := hstands (.inr (by simp [henabled, hreset]))
  rw [startUp_eq]
  refine kept_linkLaw.transmit ⟨?_, ?_, ?_, ?_, fun _ => rfl, fun _ => ?_⟩
  all_goals simp only [State.enableReceiver, State.waitQuiet, evalAttn_frame, loadClasses_frame, State.journalStartUp,
    loadTables_frame, State.leaveReset]
  · exact hlength
  · exact hperm
  · exact htimer
  · rfl
  · exact hhunt

/-- Settles O11: `kept_linkLaw` follows an order from the window to its answer; a reset empties both, and start-up enables the
receiver, which stood in HUNT. -/
theorem linkLawKeptByEveryStep : Obligations.LinkLawKeptByEveryStep := by
  intro s t hs hstep
  rw [← linkLawWith_none] at hs ⊢
  have htick : LinkLawWith none s.tick := by
    obtain ⟨hlength, hperm, htimer, henabled, hwait, hstands⟩ := hs
    obtain ⟨-, h⟩ | ⟨-, -, h⟩ | ⟨-, -, h⟩ := tick_cases s
    all_goals rw [h]
    case inr.inr => exact ⟨hlength, hperm, htimer, henabled, nofun, fun h => hstands (h.imp_left nofun)⟩
    all_goals exact ⟨hlength, hperm, htimer, henabled, hwait, hstands⟩
  obtain ht | ⟨q, ht | ⟨hread, rfl⟩⟩ := kept_linkLaw.step_cases hs (fun _ => htick) hstep
  · exact ht
  · exact linkLaw_beginsReset ht
  · exact linkLaw_startUp (kept_linkLaw.queue (w := none) hs q) hread

end Sys2Proof.Proofs

/-! ## Source records, one at a time

What an event on a source makes of its record, and which records that leaves. -/

namespace Sys2Proof.Proofs

open Sys2Proof Sys2Proof.Machine Sys2Proof.Laws

/-- The record of a source after an assertion event (R7). -/
def asserted (r : SourceRecord) : SourceRecord := { r with latch := true, count := satSucc r.count }

/-- The record of a source in a level mode after its live flag is derived anew (R8). -/
def derived (m : SourceMode) (r : SourceRecord) : SourceRecord :=
  if liveValue m r.qualified r.forced = r.live then r
  else if liveValue m r.qualified r.forced then { r with live := true, count := satSucc r.count }
  else { r with live := false }

/-- The record of a source in a mode after its qualified level has moved (R6). -/
def moved (m : SourceMode) (r : SourceRecord) (level : Level) : SourceRecord :=
  if m.isLevel then derived m { r with qualified := level }
  else if m.actsOn level then asserted { r with qualified := level }
  else { r with qualified := level }

theorem assertEvent_sources (s : State) (i : SourceNo) (forced : Bool) :
    (s.assertEvent i forced).sources = (s.setSrc i (asserted (s.src i))).sources := by
  unfold State.assertEvent
  dsimp only
  split <;> simp [asserted]

/-- A record written back as it stands is no change. -/
theorem setSrc_src_eq (s : State) (i : SourceNo) : s.setSrc i (s.src i) = s := by
  simp [State.setSrc, State.src]

theorem deriveLive_sources (s : State) (i : SourceNo) (forced : Bool) :
    (s.deriveLive i forced).sources = (s.setSrc i (derived (s.steer i).mode (s.src i))).sources := by
  unfold State.deriveLive derived
  dsimp only
  split
  · rw [setSrc_src_eq]
  · split <;> simp

theorem assertEvent_src (s : State) (i : SourceNo) (forced : Bool) (j : SourceNo) :
    (s.assertEvent i forced).src j = if j = i then asserted (s.src i) else s.src j := by
  rw [src_congr (assertEvent_sources s i forced), setSrc_src]

theorem deriveLive_src (s : State) (i : SourceNo) (forced : Bool) (j : SourceNo) :
    (s.deriveLive i forced).src j = if j = i then derived (s.steer i).mode (s.src i) else s.src j := by
  rw [src_congr (deriveLive_sources s i forced), setSrc_src]

theorem transition_src (s : State) (i : SourceNo) (level : Level) (j : SourceNo) :
    (s.transition i level).src j = if j = i then moved (s.steer i).mode (s.src i) level else s.src j := by
  unfold State.transition moved
  dsimp only
  rw [setSrc_steer]
  split
  · rw [deriveLive_src]
    split <;> simp_all [setSrc_src]
  · split
    · rw [assertEvent_src]
      split <;> simp_all [setSrc_src]
    · rw [setSrc_src]

theorem force_src (s : State) (i : SourceNo) (a : ForceAction) (j : SourceNo) :
    (s.force i a).src j = if j = i then
        match a with
        | .pulse => asserted (s.src i)
        | .on => derived (s.steer i).mode { s.src i with forced := true }
        | .off => derived (s.steer i).mode { s.src i with forced := false }
      else s.src j := by
  cases a with
  | pulse => exact assertEvent_src s i true j
  | on | off =>
    simp only [State.force, deriveLive_src, setSrc_src_self, setSrc_steer]
    split
    · rfl
    · exact setSrc_src_of_ne _ _ _ _ ‹_›

theorem steerTo_sources (s : State) (i : SourceNo) (e : SteerEntry) : (s.steerTo i e).sources = (s.replaceEntry i e).sources := by
  unfold State.steerTo
  dsimp only
  split <;> simp

theorem steerTo_src (s : State) (i : SourceNo) (e : SteerEntry) (j : SourceNo) :
    (s.steerTo i e).src j = if j = i ∧ ¬ ((s.steer i).mode = e.mode ∧ (s.steer i).cls = e.cls) then (s.src i).cleared e.mode
      else s.src j := by
  rw [src_congr (steerTo_sources s i e)]
  unfold State.replaceEntry
  by_cases hsame : (s.steer i).mode = e.mode ∧ (s.steer i).cls = e.cls
  · rw [if_pos hsame, if_neg (fun h => h.2 hsame), setSteer_src]
  · have hsrc : (((s.setSteer i e).setSrc i ((s.src i).cleared e.mode)).dropReports i).src j
        = ((s.setSteer i e).setSrc i ((s.src i).cleared e.mode)).src j := rfl
    rw [if_neg hsame, hsrc, setSrc_src]
    simp only [hsame, not_false_eq_true, and_true, setSteer_src]

theorem claimEffect_src (e : NoticeEntry) (s : State) (j : SourceNo) :
    (claimEffect e s).src j
      = if (s.claimListOf e.cls).any (fun x => x.source == j) then (s.src j).claimed (s.steer j).mode else s.src j := by
  have hsources : (claimEffect e s).sources = (s.clearClaimed e.cls (s.claimListOf e.cls)).sources := rfl
  rw [src_congr hsources]
  exact src_ofFn s _ j

theorem loadTables_src (s : State) (p : Profile) (j : SourceNo) :
    (s.loadTables p).src j = (s.src j).cleared (p.steering[j]).mode := by
  simp [State.loadTables, State.src]

end Sys2Proof.Proofs

/-! ## The law of the source records

What each change of a record keeps of its law, and that every operation keeps the law of all records out of reset. -/

namespace Sys2Proof.Proofs

open Sys2Proof Sys2Proof.Machine Sys2Proof.Laws

/-! ### One record -/

section Record

variable {m : SourceMode} {r : SourceRecord}

theorem not_isLevel_of_isEdge (h : m.isEdge = true) : m.isLevel = false := by cases m <;> trivial

theorem ne_off_of_isEdge (h : m.isEdge = true) : m ≠ .off := by cases m <;> simp_all [SourceMode.isEdge]

theorem not_isEdge_of_isLevel (h : m.isLevel = true) : m.isEdge = false := by cases m <;> trivial

theorem ne_off_of_isLevel (h : m.isLevel = true) : m ≠ .off := by cases m <;> simp_all [SourceMode.isLevel]

theorem isEdge_of_actsOn {level : Level} (h : m.actsOn level = true) : m.isEdge = true := by
  cases m <;> simp_all [SourceMode.actsOn, SourceMode.isEdge]

theorem liveValue_of_not_isLevel (h : m.isLevel = false) (q : Level) (f : Bool) : liveValue m q f = false := by
  cases m <;> simp_all [SourceMode.isLevel, liveValue]

theorem satSucc_ne_zero (c : Byte) : satSucc c ≠ 0 := by
  unfold satSucc
  split
  · decide
  · bv_omega

/-- A record whose mode changes is cleared under its new mode, whatever the mode before (R9, R23). -/
theorem sourceLaw_cleared {m' : SourceMode} (h : SourceLaw m' r) (m : SourceMode) : SourceLaw m (r.cleared m) := by
  obtain ⟨htimer, -⟩ := h
  exact ⟨htimer, rfl, fun _ => ⟨by simp [SourceRecord.cleared], rfl⟩, fun _ => rfl, fun _ => ⟨rfl, rfl, rfl⟩⟩

theorem sourceLaw_claimed (h : SourceLaw m r) : SourceLaw m (r.claimed m) := by
  obtain ⟨htimer, hlive, hedge, hlevel, hoff⟩ := h
  unfold SourceRecord.claimed
  split
  · rename_i hm
    exact ⟨htimer, hlive, fun _ => ⟨by simp, (hedge hm).2⟩, fun _ => rfl, fun ho => absurd ho (ne_off_of_isEdge hm)⟩
  · rename_i hm
    refine ⟨htimer, hlive, fun hm' => absurd hm' hm, hlevel, fun ho => ?_⟩
    obtain ⟨hlatch, -, hforced⟩ := hoff ho
    exact ⟨hlatch, rfl, hforced⟩

theorem sourceLaw_asserted (hm : m.isEdge = true) (h : SourceLaw m r) : SourceLaw m (asserted r) := by
  obtain ⟨htimer, hlive, hedge, -, -⟩ := h
  refine ⟨htimer, hlive, fun _ => ⟨⟨fun hzero => absurd hzero (satSucc_ne_zero _), nofun⟩, (hedge hm).2⟩, fun hl => ?_,
    fun ho => absurd ho (ne_off_of_isEdge hm)⟩
  · rw [not_isLevel_of_isEdge hm] at hl
    cases hl

theorem derived_live (m : SourceMode) (r : SourceRecord) : (derived m r).live = liveValue m r.qualified r.forced := by
  unfold derived
  split
  · exact (‹_ = _›).symm
  · split <;> simp_all

theorem derived_kept (m : SourceMode) (r : SourceRecord) :
    (derived m r).raw = r.raw ∧ (derived m r).qualified = r.qualified ∧ (derived m r).timer = r.timer
    ∧ (derived m r).latch = r.latch ∧ (derived m r).forced = r.forced := by
  unfold derived
  split
  · simp
  · split <;> simp

/-- In a level mode the live flag is derived from whatever the qualified level and the forced flag have become (R8). -/
theorem sourceLaw_derived (hm : m.isLevel = true) (hlatch : r.latch = false) (hstill : r.timer = none) (hraw : r.raw = r.qualified) :
    SourceLaw m (derived m r) := by
  obtain ⟨hkraw, hkqualified, hktimer, hklatch, hkforced⟩ := derived_kept m r
  refine ⟨?_, ?_, fun he => ?_, fun _ => hklatch.trans hlatch, fun ho => absurd ho (ne_off_of_isLevel hm)⟩
  · rw [hktimer, hstill]
    exact hkraw.trans (hraw.trans hkqualified.symm)
  · rw [derived_live, hkqualified, hkforced]
  · rw [not_isEdge_of_isLevel hm] at he
    cases he

/-- A forced flag that moves in a level mode leaves the timer as it is, and the live flag follows (R15). -/
theorem sourceLaw_forced (hm : m.isLevel = true) (h : SourceLaw m r) (b : Bool) : SourceLaw m (derived m { r with forced := b }) := by
  obtain ⟨htimer, -, -, hlevel, -⟩ := h
  obtain ⟨hkraw, hkqualified, hktimer, hklatch, hkforced⟩ := derived_kept m { r with forced := b }
  refine ⟨?_, ?_, fun he => ?_, fun _ => hklatch.trans (hlevel hm), fun ho => absurd ho (ne_off_of_isLevel hm)⟩
  · rw [hktimer, hkraw, hkqualified]
    exact htimer
  · rw [derived_live, hkqualified, hkforced]
  · rw [not_isEdge_of_isLevel hm] at he
    cases he

/-- A qualified transition to the raw level, its timer stopped, keeps the law (R6). -/
theorem sourceLaw_moved {level : Level} (h : SourceLaw m r) : SourceLaw m (moved m { r with raw := level, timer := none } level) := by
  obtain ⟨-, hlive, hedge, hlevel, hoff⟩ := h
  unfold moved
  split
  · rename_i hm
    exact sourceLaw_derived hm (hlevel hm) rfl rfl
  · rename_i hm
    have hm := Bool.eq_false_iff.mpr hm
    have hstill : SourceLaw m { r with raw := level, timer := none, qualified := level } := by
      refine ⟨rfl, ?_, hedge, hlevel, hoff⟩
      rw [liveValue_of_not_isLevel hm] at hlive ⊢
      exact hlive
    split
    · exact sourceLaw_asserted (isEdge_of_actsOn ‹_›) hstill
    · exact hstill

/-- There are two levels. -/
theorem level_eq_of_ne {a b c : Level} (hab : a ≠ b) (hbc : b ≠ c) : a = c := by
  cases a <;> cases b <;> cases c <;> simp_all

end Record

/-! ### All records -/

theorem sourcesLaw_of_same {s t : State} (hs : SourcesLaw s) (hsteering : t.steering = s.steering) (hsources : t.sources = s.sources)
    (hpower : t.power = s.power) : SourcesLaw t := by
  intro hrunning i
  rw [steer_congr hsteering, src_congr hsources]
  exact hs (hpower ▸ hrunning) i

/-- One record changes. -/
theorem sourcesLaw_of_src {s t : State} (i : SourceNo) {r : SourceRecord} (hs : SourcesLaw s) (hsteering : t.steering = s.steering)
    (hpower : t.power = s.power) (hsrc : ∀ j, t.src j = if j = i then r else s.src j)
    (hr : SourceLaw (s.steer i).mode (s.src i) → SourceLaw (s.steer i).mode r) : SourcesLaw t := by
  intro hrunning j
  have hj := hs (hpower ▸ hrunning) j
  rw [steer_congr hsteering, hsrc]
  split
  · subst_vars
    exact hr hj
  · exact hj

/-- A change of the raw level starts, stops or ends the qualification (R4). -/
theorem sourcesLaw_rawChange {s : State} (hs : SourcesLaw s) (i : SourceNo) (level : Level) : SourcesLaw (s.rawChange i level) := by
  intro hrunning j
  have hrunning : s.power.inReset = false := by simpa using hrunning
  have hone : ∀ r, SourceLaw (s.steer i).mode r → SourceLaw (s.steer j).mode ((s.setSrc i r).src j) := by
    intro r hr
    rw [setSrc_src]
    split
    · subst_vars
      exact hr
    · exact hs hrunning j
  have hsteer : (s.rawChange i level).steer j = s.steer j := steer_congr (by simp) j
  obtain ⟨htimer, hlive, hedge, hlevel, hoff⟩ := hs hrunning i
  rw [hsteer]
  unfold State.rawChange
  dsimp only
  split
  · exact hs hrunning j
  · rename_i hchange
    rw [if_neg (by simp [hrunning])]
    split
    · rename_i t ht
      rw [ht] at htimer
      obtain ⟨haway, hraw⟩ := htimer
      have hback : level = (s.src i).qualified :=
        level_eq_of_ne (fun h => hchange (hraw.trans h.symm)) haway
      rw [if_pos hback]
      exact hone _ ⟨hback, hlive, hedge, hlevel, hoff⟩
    · rename_i ht
      rw [ht] at htimer
      have haway : level ≠ (s.src i).qualified := fun h => hchange (htimer.trans h.symm)
      rw [if_neg haway]
      split
      · have hmoved := sourceLaw_moved (level := level) (hs hrunning i)
        rw [transition_src]
        simp only [setSrc_steer, setSrc_src_self]
        split
        · subst_vars
          simpa only [ht] using hmoved
        · rw [setSrc_src_of_ne _ _ _ _ ‹_›]
          exact hs hrunning j
      · exact hone _ ⟨⟨haway, rfl⟩, hlive, hedge, hlevel, hoff⟩

/-- The timer ran toward the raw level, so at its expiry the qualified level is the raw level again (R4). -/
theorem sourcesLaw_qualified {s : State} {i : SourceNo} {t : QualTimer} (hs : SourcesLaw s) (ht : (s.src i).timer = some t) :
    SourcesLaw ((s.setSrc i { s.src i with timer := none }).transition i t.target) := by
  have hsrc : ∀ j, ((s.setSrc i { s.src i with timer := none }).transition i t.target).src j
      = if j = i then moved (s.steer i).mode { s.src i with timer := none } t.target else s.src j := by
    intro j
    rw [transition_src, setSrc_steer, setSrc_src_self]
    split
    · rfl
    · exact setSrc_src_of_ne _ _ _ _ ‹_›
  refine sourcesLaw_of_src i hs (by simp) (by simp) hsrc fun hi => ?_
  have ⟨htimer, _⟩ := hi
  rw [ht] at htimer
  obtain ⟨-, hraw⟩ := htimer
  have hmoved := sourceLaw_moved (level := t.target) hi
  rwa [← hraw] at hmoved ⊢

theorem sourcesLaw_force {s : State} {i : SourceNo} {a : ForceAction} (hs : SourcesLaw s)
    (hfits : ForceAction.fits a (s.steer i).mode = true) : SourcesLaw (s.force i a) := by
  refine sourcesLaw_of_src i hs (by simp) (by simp) (force_src s i a) fun hi => ?_
  cases a with
  | pulse => exact sourceLaw_asserted hfits hi
  | on | off => exact sourceLaw_forced hfits hi _

theorem sourcesLaw_steerTo {s : State} (hs : SourcesLaw s) (i : SourceNo) (e : SteerEntry) : SourcesLaw (s.steerTo i e) := by
  intro hrunning j
  have hj := hs (by simpa using hrunning) j
  rw [steerTo_src, steerTo_steer]
  by_cases hi : j = i
  · subst hi
    by_cases hsame : (s.steer j).mode = e.mode ∧ (s.steer j).cls = e.cls
    · rw [hsame.1] at hj
      simpa [hsame] using hj
    · simpa [hsame] using sourceLaw_cleared hj e.mode
  · simpa [hi] using hj

theorem sourcesLaw_claim {s : State} (hs : SourcesLaw s) (e : NoticeEntry) : SourcesLaw (claimEffect e s) := by
  intro hrunning j
  have hj := hs (by simpa using hrunning) j
  rw [claimEffect_src, steer_congr (s := s) (by simp)]
  split
  · exact sourceLaw_claimed hj
  · exact hj

theorem sourcesLaw_load {s : State} (hs : SourcesLaw s) (p : Profile) : SourcesLaw (loadEffect p s) := by
  intro hrunning j
  have hj := hs (by simpa using hrunning) j
  have hsrc : (loadEffect p s).src j = (s.src j).cleared (p.steering[j]).mode := loadTables_src s p j
  rw [hsrc]
  exact sourceLaw_cleared hj _

theorem kept_sourcesLaw : Kept fun _ => SourcesLaw where
  free _ _ _ _ _ hs := sourcesLaw_of_same hs rfl rfl rfl
  straps _ _ hs := sourcesLaw_of_same hs rfl rfl rfl
  power _ hreset hs := fun hrunning => hs (hreset ▸ hrunning)
  waitQuiet _ _ hs _ _ := sourcesLaw_of_same hs rfl rfl rfl
  discard hs := sourcesLaw_of_same hs rfl rfl rfl
  enterWindow _ hs _ := sourcesLaw_of_same hs rfl rfl rfl
  frameFails hs := sourcesLaw_of_same hs rfl rfl rfl
  receiveTo _ hs _ _ _ := sourcesLaw_of_same hs rfl rfl rfl
  enqueue _ _ hs _ := sourcesLaw_of_same hs rfl rfl rfl
  sendStart hs _ := sourcesLaw_of_same hs rfl rfl rfl
  sendAnswer hs _ _ := sourcesLaw_of_same hs rfl rfl rfl
  sendNotice hs _ _ := sourcesLaw_of_same hs rfl rfl rfl
  startSent hs _ _ := sourcesLaw_of_same hs rfl rfl rfl
  answerSent hs _ _ := sourcesLaw_of_same hs rfl rfl rfl
  noticeSent hs _ _ := sourcesLaw_of_same hs rfl rfl rfl
  otherSent hs _ _ := sourcesLaw_of_same hs rfl rfl rfl
  rawChange i level hs := sourcesLaw_rawChange hs i level
  qualified hs ht := sourcesLaw_qualified hs ht
  force hs _ hfits := sourcesLaw_force hs hfits
  steerTo hs _ _ _ := sourcesLaw_steerTo hs _ _
  takeReport hs _ := sourcesLaw_of_same hs (by simp) (by simp) (by simp)
  deadline hs _ := sourcesLaw_of_same hs rfl rfl rfl
  hold hs _ := sourcesLaw_of_same hs rfl rfl rfl
  withSettings _ hs _ := sourcesLaw_of_same hs rfl rfl rfl
  setMasks _ _ hs := sourcesLaw_of_same hs (by simp) (by simp) (by simp)
  alarmOff hs _ := sourcesLaw_of_same hs rfl rfl rfl
  createNotice hs _ := sourcesLaw_of_same hs (by simp) (by simp) (by simp)
  claim hs _ _ _ := sourcesLaw_claim hs _
  release hs _ _ _ := sourcesLaw_of_same hs (by simp) (by simp) (by simp)
  returned _ hs _ _ _ := sourcesLaw_of_same hs (by simp) (by simp) (by simp)
  repeated hs _ _ _ := sourcesLaw_of_same hs rfl rfl rfl
  exhausted hs _ _ _ := sourcesLaw_of_same hs rfl rfl rfl
  expired hs _ _ := sourcesLaw_of_same hs (by simp) (by simp) (by simp)
  takeAsk hs _ := sourcesLaw_of_same hs (by simp) (by simp) (by simp)
  takeWithdrawal hs _ := sourcesLaw_of_same hs (by simp) (by simp) (by simp)
  guardEnds hs _ := sourcesLaw_of_same hs rfl rfl rfl
  repair hs _ _ _ := sourcesLaw_of_same hs rfl rfl rfl
  openWith hs _ _ _ := sourcesLaw_of_same hs (by simp) (by simp) (by simp)
  teardown _ _ _ _ hs _ := sourcesLaw_of_same hs (by simp) (by simp) (by simp)
  beginSave hs _ := sourcesLaw_of_same hs rfl rfl rfl
  saved hs _ := sourcesLaw_of_same hs rfl rfl rfl
  beginSetBoot _ hs _ := sourcesLaw_of_same hs rfl rfl rfl
  bootSet hs _ := sourcesLaw_of_same hs rfl rfl rfl
  load hs _ _ _ := sourcesLaw_load hs _

theorem startUp_sources (s : State) :
    s.startUp.sources = Vector.ofFn fun i => (resetSource (s.src i).raw).cleared (s.store.bootChoice.2.steering[i]).mode := by
  simp [State.startUp, State.enableReceiver, State.journalStartUp, State.leaveReset, State.loadTables, State.src,
    SourceRecord.inReset]

theorem startUp_steering (s : State) : s.startUp.steering = s.store.bootChoice.2.steering := by
  simp [State.startUp, State.enableReceiver, State.journalStartUp, State.loadTables]

/-- Start-up leaves every record cleared, its raw and qualified level equal, under its mode of the profile put in force (R3, R160). -/
theorem sourcesLaw_startUp (s : State) : SourcesLaw s.startUp := by
  intro _ i
  have hreset : SourceLaw .off (resetSource (s.src i).raw) := by
    simp [SourceLaw, resetSource, liveValue, SourceMode.isEdge, SourceMode.isLevel]
  have hsrc : s.startUp.src i = (resetSource (s.src i).raw).cleared (s.startUp.steer i).mode := by
    simp [State.src, State.steer, startUp_sources, startUp_steering]
  rw [hsrc]
  exact sourceLaw_cleared hreset _

/-- Settles O7: `kept_sourcesLaw` goes through the operations; in reset the law says nothing, and start-up establishes it anew. -/
theorem sourcesLawKeptByEveryStep : Obligations.SourcesLawKeptByEveryStep := by
  intro s t hs hstep
  have htick : SourcesLaw s.tick := by
    unfold State.tick
    split
    · exact hs
    · exact sourcesLaw_of_same hs rfl rfl rfl
  obtain ht | ⟨q, ht | ⟨-, rfl⟩⟩ := kept_sourcesLaw.step_cases hs (fun _ => htick) hstep
  · exact ht
  · obtain ⟨cause, l, p, hreset, rfl⟩ := ht
    exact fun hrunning => absurd hreset (Bool.eq_false_iff.mp hrunning)
  · exact sourcesLaw_startUp _

end Sys2Proof.Proofs

/-! ## The notice table

What a change of the class records, of an entry and of the table keeps of the laws of the notice table. -/

namespace Sys2Proof.Proofs

open Sys2Proof Sys2Proof.Machine Sys2Proof.Laws

/-- What an entry and the record of its class satisfy (R60, R69, R73, R78, R79). -/
def EntryLaw (e : NoticeEntry) (r : ClassRecord) : Prop :=
  e.number ≠ 0 ∧ r.state = e.state.toClass ∧ e.critical = r.settings.critical
  ∧ (e.answerTimer.isSome → e.state = .notified) ∧ (e.serviceTimer.isSome → e.state = .inService)
  ∧ (e.claimList.isSome ↔ e.state ≠ .notified) ∧ (e.claimTime.isSome ↔ e.state ≠ .notified)

/-- A hold timer runs only in HELD (R31). -/
def HoldLaw (r : ClassRecord) : Prop := r.holdTimer.isSome → r.state = .held

theorem noticeLaw_iff {s : State} : NoticeLaw s ↔
    s.dispatcher.entries.length ≤ 8 ∧ (s.dispatcher.entries.map (·.number)).Nodup ∧ (s.dispatcher.entries.map (·.cls)).Nodup
    ∧ (∀ e ∈ s.dispatcher.entries, EntryLaw e (s.klass e.cls))
    ∧ (∀ c, (s.klass c).state.inFlight = true → ∃ e ∈ s.dispatcher.entries, e.cls = c)
    ∧ (s.session.up = false → s.dispatcher.entries = [])
    ∧ (s.dispatcher.entries.filter fun e => !e.critical).length ≤ s.session.credit.toNat
    ∧ s.session.credit.toNat ≤ 8 ∧ s.dispatcher.nextNumber ≠ 0 ∧ (∀ c, HoldLaw (s.klass c)) := Iff.rfl

/-! ### What the laws say of one entry -/

section Facts

variable {s : State} (hs : NoticeLaw s)
include hs

theorem entryLaw_of_mem {e : NoticeEntry} (he : e ∈ s.dispatcher.entries) : EntryLaw e (s.klass e.cls) := by
  obtain ⟨-, -, -, hentry, -⟩ := noticeLaw_iff.mp hs
  exact hentry e he

theorem holdLaw_klass (c : ClassNo) : HoldLaw (s.klass c) := by
  obtain ⟨-, -, -, -, -, -, -, -, -, hhold⟩ := noticeLaw_iff.mp hs
  exact hhold c

theorem entry_eq_of_number {e x : NoticeEntry} (he : e ∈ s.dispatcher.entries) (hx : x ∈ s.dispatcher.entries)
    (hnumber : x.number = e.number) : x = e := by
  obtain ⟨-, hnumbers, -⟩ := noticeLaw_iff.mp hs
  exact List.inj_on_of_nodup_map hnumbers hx he hnumber

theorem entry_eq_of_cls {e x : NoticeEntry} (he : e ∈ s.dispatcher.entries) (hx : x ∈ s.dispatcher.entries)
    (hcls : x.cls = e.cls) : x = e := by
  obtain ⟨-, -, hclasses, -⟩ := noticeLaw_iff.mp hs
  exact List.inj_on_of_nodup_map hclasses hx he hcls

theorem state_of_entry {e : NoticeEntry} (he : e ∈ s.dispatcher.entries) : (s.klass e.cls).state = e.state.toClass := by
  obtain ⟨-, hstate, -⟩ := entryLaw_of_mem hs he
  exact hstate

theorem inFlight_of_entry {e : NoticeEntry} (he : e ∈ s.dispatcher.entries) : (s.klass e.cls).state.inFlight = true := by
  rw [state_of_entry hs he]
  cases e.state <;> rfl

theorem holdTimer_of_entry {e : NoticeEntry} (he : e ∈ s.dispatcher.entries) : (s.klass e.cls).holdTimer = none := by
  have hhold := holdLaw_klass hs e.cls
  have hflight := inFlight_of_entry hs he
  by_contra hsome
  rw [hhold (Option.isSome_iff_ne_none.mpr hsome)] at hflight
  cases hflight

theorem entries_of_down (hdown : s.session.up = false) : s.dispatcher.entries = [] := by
  obtain ⟨-, -, -, -, -, hempty, -⟩ := noticeLaw_iff.mp hs
  exact hempty hdown

theorem notified_of_answerTimer {e : NoticeEntry} (he : e ∈ s.dispatcher.entries) (htimer : e.answerTimer.isSome) :
    e.state = .notified := by
  obtain ⟨-, -, -, hanswer, -⟩ := entryLaw_of_mem hs he
  exact hanswer htimer

theorem inService_of_serviceTimer {e : NoticeEntry} (he : e ∈ s.dispatcher.entries) (htimer : e.serviceTimer.isSome) :
    e.state = .inService := by
  obtain ⟨-, -, -, -, hservice, -⟩ := entryLaw_of_mem hs he
  exact hservice htimer

end Facts

/-! ### Class records that change under an unchanged table -/

/-- A change of a class record that no entry of the table sees: its state, its critical setting and its hold timer stay, or it has no
notice before and after. -/
def Unseen (r r' : ClassRecord) : Prop :=
  (r'.state = r.state ∧ r'.settings.critical = r.settings.critical ∧ r'.holdTimer = r.holdTimer)
  ∨ (r.state.inFlight = false ∧ r'.state.inFlight = false ∧ HoldLaw r')

theorem unseen_refl (r : ClassRecord) : Unseen r r := .inl ⟨rfl, rfl, rfl⟩

theorem noticeLaw_of_unseen {s t : State} (hs : NoticeLaw s) (hentries : t.dispatcher.entries = s.dispatcher.entries)
    (hnext : t.dispatcher.nextNumber = s.dispatcher.nextNumber) (hup : t.session.up = s.session.up)
    (hcredit : t.session.credit = s.session.credit) (hclass : ∀ c, Unseen (s.klass c) (t.klass c)) : NoticeLaw t := by
  have hflight : ∀ e ∈ s.dispatcher.entries, (s.klass e.cls).state.inFlight = true := fun _ he => inFlight_of_entry hs he
  obtain ⟨hlength, hnumbers, hclasses, hentry, hhas, hdown, hroom, hbound, hnonzero, hhold⟩ := noticeLaw_iff.mp hs
  rw [noticeLaw_iff, hentries, hnext, hup, hcredit]
  refine ⟨hlength, hnumbers, hclasses, fun e he => ?_, fun c hc => ?_, hdown, hroom, hbound, hnonzero, fun c => ?_⟩
  · obtain ⟨hstate, hcritical, -⟩ | ⟨hfree, -, -⟩ := hclass e.cls
    · have hlaw := hentry e he
      unfold EntryLaw at hlaw ⊢
      rwa [hstate, hcritical]
    · rw [hflight e he] at hfree
      cases hfree
  · obtain ⟨hstate, -, -⟩ | ⟨-, hfree, -⟩ := hclass c
    · exact hhas c (hstate ▸ hc)
    · rw [hc] at hfree
      cases hfree
  · obtain ⟨hstate, -, htimer⟩ | ⟨-, -, hlaw⟩ := hclass c
    · have hlaw := hhold c
      unfold HoldLaw at hlaw ⊢
      rwa [hstate, htimer]
    · exact hlaw

theorem noticeLaw_of_same {s t : State} (hs : NoticeLaw s) (hentries : t.dispatcher.entries = s.dispatcher.entries)
    (hnext : t.dispatcher.nextNumber = s.dispatcher.nextNumber) (hclasses : t.classes = s.classes)
    (hup : t.session.up = s.session.up) (hcredit : t.session.credit = s.session.credit) : NoticeLaw t :=
  noticeLaw_of_unseen hs hentries hnext hup hcredit fun c => by
    rw [klass_congr hclasses]
    exact unseen_refl _

theorem unseen_setKlass {s : State} {c : ClassNo} {r : ClassRecord} (h : Unseen (s.klass c) r) (d : ClassNo) :
    Unseen (s.klass d) ((s.setKlass c r).klass d) := by
  rw [setKlass_klass]
  split
  · subst_vars
    exact h
  · exact unseen_refl _

theorem noticeLaw_setKlass {s : State} {c : ClassNo} {r : ClassRecord} (hs : NoticeLaw s) (h : Unseen (s.klass c) r) :
    NoticeLaw (s.setKlass c r) :=
  noticeLaw_of_unseen hs rfl rfl rfl rfl (unseen_setKlass h)

section Transitions

variable {r : ClassRecord} {now : Time} {found : List SourceNo}

theorem enterIdle_free (r : ClassRecord) : r.enterIdle.state.inFlight = false ∧ HoldLaw r.enterIdle := ⟨rfl, nofun⟩

/-- A class in IDLE or PENDING runs no hold timer, whatever it enters next. -/
theorem holdTimer_eq_none_of_ne_held (hr : HoldLaw r) (hstate : r.state ≠ .held) : r.holdTimer = none :=
  Option.not_isSome_iff_eq_none.mp fun hsome => hstate (hr hsome)

theorem settleFresh_free (hr : r.holdTimer = none) : (r.settleFresh now found).state.inFlight = false ∧ HoldLaw (r.settleFresh now found) := by
  unfold ClassRecord.settleFresh
  split
  · exact enterIdle_free r
  · exact ⟨rfl, fun hsome => by simp [ClassRecord.enterFresh, hr] at hsome⟩

theorem settleContinued_free (r : ClassRecord) (found : List SourceNo) :
    (r.settleContinued found).state.inFlight = false ∧ HoldLaw (r.settleContinued found) := by
  unfold ClassRecord.settleContinued
  split
  · exact enterIdle_free r
  · exact ⟨rfl, nofun⟩

theorem unseen_reevaluate (hr : HoldLaw r) (now : Time) (found : List SourceNo) : Unseen r (r.reevaluate now found) := by
  unfold ClassRecord.reevaluate
  split
  next hidle => exact .inr ⟨by rw [hidle]; rfl, settleFresh_free (holdTimer_eq_none_of_ne_held hr (by simp [hidle]))⟩
  next hpending =>
    split
    · exact .inr ⟨by rw [hpending]; rfl, enterIdle_free r⟩
    · exact .inl ⟨rfl, rfl, rfl⟩
  all_goals exact unseen_refl r

theorem unseen_reportOn (hr : HoldLaw r) (now : Time) (i : SourceNo) : Unseen r (r.reportOn now i) := by
  unfold ClassRecord.reportOn
  split
  next hidle =>
    have hnone := holdTimer_eq_none_of_ne_held hr (by simp [hidle])
    exact .inr ⟨by rw [hidle]; rfl, rfl, fun hsome => by simp [ClassRecord.enterFresh, hnone] at hsome⟩
  next => exact .inl ⟨rfl, rfl, rfl⟩
  all_goals exact unseen_refl r

theorem unseen_reportOff (i : SourceNo) (found : List SourceNo) : Unseen r (r.reportOff i found) := by
  unfold ClassRecord.reportOff
  split
  next => exact .inl ⟨rfl, rfl, rfl⟩
  next hpending =>
    split
    · exact .inr ⟨by rw [hpending]; rfl, enterIdle_free r⟩
    · exact .inl ⟨rfl, rfl, rfl⟩
  all_goals exact unseen_refl r

theorem withSettings_state (r : ClassRecord) (x : ClassSettings) (now : Time) :
    (r.withSettings x now).state = r.state ∧ (r.withSettings x now).holdTimer = r.holdTimer := by
  unfold ClassRecord.withSettings
  split
  · split <;> exact ⟨rfl, rfl⟩
  · split <;> exact ⟨rfl, rfl⟩

theorem unseen_withSettings (hr : HoldLaw r) (hfree : r.state.inFlight = false) (x : ClassSettings) (now : Time) :
    Unseen r (r.withSettings x now) := by
  obtain ⟨hstate, htimer⟩ := withSettings_state r x now
  refine .inr ⟨hfree, by rw [hstate, hfree], ?_⟩
  unfold HoldLaw at hr ⊢
  rwa [hstate, htimer]

/-- Teardown leaves no class with a notice (R84). -/
theorem tornDown_free (hr : HoldLaw r) (now : Time) (found : List SourceNo) :
    (r.tornDown now found).state.inFlight = false ∧ HoldLaw (r.tornDown now found) := by
  unfold ClassRecord.tornDown
  split
  case h_1 | h_2 => exact settleContinued_free r found
  case h_3 hstate | h_4 hstate => exact settleFresh_free (holdTimer_eq_none_of_ne_held hr (by simp [hstate]))
  case h_5 hstate | h_6 hstate => exact ⟨by rw [hstate]; rfl, hr⟩

theorem loaded_free (r : ClassRecord) (x : ClassSettings) (now : Time) (found : List SourceNo) :
    (r.loaded x now found).state.inFlight = false ∧ HoldLaw (r.loaded x now found) := settleFresh_free rfl

end Transitions

theorem contributors_congr {s t : State} (hsteering : t.steering = s.steering) (hsources : t.sources = s.sources) (c : ClassNo) :
    t.contributors c = s.contributors c := by
  have hcontributes : t.contributes = s.contributes := by
    funext i
    simp only [State.contributes, steer_congr hsteering, src_congr hsources]
  simp only [State.contributors, State.members, steer_congr hsteering, hcontributes]

theorem reevaluateSteered_klass (s : State) (c : Option ClassNo) (d : ClassNo) :
    (s.reevaluateSteered c).klass d
      = if c = some d then (s.klass d).reevaluate s.time (s.contributors d) else s.klass d := by
  cases c with
  | none => rfl
  | some c =>
    simp only [State.reevaluateSteered, State.reevaluate, setKlass_klass, Option.some.injEq, eq_comm (a := c)]
    split
    · subst_vars
      rfl
    · rfl

/-- An accepted SET-STEER re-evaluates the old class and the new one under the new table, each once (R24). -/
theorem steerTo_klass (s : State) (i : SourceNo) (e : SteerEntry) (c : ClassNo) :
    (s.steerTo i e).klass c = if (s.steer i).cls = some c ∨ e.cls = some c
      then (s.klass c).reevaluate s.time ((s.replaceEntry i e).contributors c) else s.klass c := by
  have hklass : (s.replaceEntry i e).klass c = s.klass c := klass_congr (by simp) c
  have htime : (s.replaceEntry i e).time = s.time := by simp
  unfold State.steerTo
  dsimp only
  split
  · rename_i hsame
    simp only [reevaluateSteered_klass, hklass, htime, hsame, or_self]
  · rename_i hother
    have hagain : ((s.replaceEntry i e).reevaluateSteered (s.steer i).cls).contributors c = (s.replaceEntry i e).contributors c :=
      contributors_congr (by simp) (by simp) c
    have htime' : ((s.replaceEntry i e).reevaluateSteered (s.steer i).cls).time = s.time := by simp
    simp only [reevaluateSteered_klass, hklass, htime, hagain, htime']
    by_cases hold : (s.steer i).cls = some c
    · rw [if_neg (fun hnew => hother (hnew.trans hold.symm)), if_pos hold, if_pos (.inl hold)]
    · simp only [hold, if_false, false_or]

theorem unseen_steerTo {s : State} (hs : ∀ c, HoldLaw (s.klass c)) (i : SourceNo) (e : SteerEntry) (c : ClassNo) :
    Unseen (s.klass c) ((s.steerTo i e).klass c) := by
  rw [steerTo_klass]
  split
  · exact unseen_reevaluate (hs c) _ _
  · exact unseen_refl _

theorem unseen_setMasks (s : State) (m : Half) (b : Bool) (c : ClassNo) : Unseen (s.klass c) ((s.setMasks m b).klass c) := by
  have hklass : (s.setMasks m b).klass c
      = if m.getLsbD c.val then { s.klass c with settings := { (s.klass c).settings with masked := b } } else s.klass c :=
    klass_ofFn s _ c
  rw [hklass]
  split
  · exact .inl ⟨rfl, rfl, rfl⟩
  · exact unseen_refl _

/-! ### An entry that changes -/

/-- The entry that carries `n` becomes what `f` makes of it. -/
def updated (n : Byte) (f : NoticeEntry → NoticeEntry) (l : List NoticeEntry) : List NoticeEntry :=
  l.map fun x => if x.number = n then f x else x

/-- An update leaves who the entry is. -/
def SameEntry (f : NoticeEntry → NoticeEntry) : Prop := ∀ x, (f x).number = x.number ∧ (f x).cls = x.cls ∧ (f x).critical = x.critical

theorem map_updated {n : Byte} {f : NoticeEntry → NoticeEntry} {α : Type} {g : NoticeEntry → α} (hg : ∀ x, g (f x) = g x)
    (l : List NoticeEntry) : (updated n f l).map g = l.map g := by
  simp only [updated, List.map_map]
  refine List.map_congr_left fun x _ => ?_
  simp only [Function.comp_apply]
  split
  · exact hg x
  · rfl

theorem filter_critical_updated_length {n : Byte} {f : NoticeEntry → NoticeEntry} (hf : SameEntry f) (l : List NoticeEntry) :
    ((updated n f l).filter fun e => !e.critical).length = (l.filter fun e => !e.critical).length := by
  have hcritical := map_updated (n := n) (fun x => (hf x).2.2) l
  have hlength : ∀ l : List NoticeEntry, (l.filter fun e => !e.critical).length = ((l.map (·.critical)).filter fun b => !b).length :=
    fun l => by simp [List.filter_map, Function.comp_def]
  rw [hlength, hcritical, ← hlength]

theorem mem_updated {n : Byte} {f : NoticeEntry → NoticeEntry} {l : List NoticeEntry} {y : NoticeEntry} :
    y ∈ updated n f l ↔ (∃ x ∈ l, x.number = n ∧ y = f x) ∨ (y ∈ l ∧ y.number ≠ n) := by
  simp only [updated, List.mem_map]
  constructor
  · rintro ⟨x, hx, rfl⟩
    split
    · exact .inl ⟨x, hx, ‹_›, rfl⟩
    · exact .inr ⟨hx, ‹_›⟩
  · rintro (⟨x, hx, hn, rfl⟩ | ⟨hy, hn⟩)
    · exact ⟨x, hx, if_pos hn⟩
    · exact ⟨y, hy, if_neg hn⟩

/-- An entry and its class move together: every other entry and class stays as it is (R60). -/
theorem noticeLaw_of_updated {s t : State} {e : NoticeEntry} {f : NoticeEntry → NoticeEntry} {r : ClassRecord} (hs : NoticeLaw s)
    (he : e ∈ s.dispatcher.entries) (hentries : t.dispatcher.entries = updated e.number f s.dispatcher.entries) (hf : SameEntry f)
    (hnext : t.dispatcher.nextNumber = s.dispatcher.nextNumber) (hup : t.session.up = s.session.up)
    (hcredit : t.session.credit = s.session.credit) (hclass : ∀ c, t.klass c = if c = e.cls then r else s.klass c)
    (hlaw : EntryLaw (f e) r) (hhold : r.holdTimer = (s.klass e.cls).holdTimer) : NoticeLaw t := by
  have hsame : ∀ x ∈ s.dispatcher.entries, x.number = e.number → x = e := fun x hx => entry_eq_of_number hs he hx
  have hother : ∀ x ∈ s.dispatcher.entries, x.cls = e.cls → x = e := fun x hx => entry_eq_of_cls hs he hx
  have hnone := holdTimer_of_entry hs he
  obtain ⟨hlength, hnumbers, hclasses, hentry, hhas, hdown, hroom, hbound, hnonzero, hholds⟩ := noticeLaw_iff.mp hs
  rw [noticeLaw_iff, hentries, hnext, hup, hcredit, map_updated fun x => (hf x).1, map_updated fun x => (hf x).2.1,
    filter_critical_updated_length hf]
  refine ⟨by simpa [updated] using hlength, hnumbers, hclasses, fun y hy => ?_, fun c hc => ?_, fun h => ?_, hroom, hbound,
    hnonzero, fun c => ?_⟩
  · obtain ⟨x, hx, hn, rfl⟩ | ⟨hy, hn⟩ := mem_updated.mp hy
    · obtain rfl := hsame x hx hn
      rw [hclass, if_pos (hf x).2.1]
      exact hlaw
    · rw [hclass, if_neg (fun hcls => hn (hother y hy hcls ▸ rfl))]
      exact hentry y hy
  · by_cases hce : c = e.cls
    · exact ⟨f e, mem_updated.mpr (.inl ⟨e, he, rfl, rfl⟩), (hf e).2.1.trans hce.symm⟩
    · rw [hclass, if_neg hce] at hc
      obtain ⟨x, hx, hxc⟩ := hhas c hc
      exact ⟨x, mem_updated.mpr (.inr ⟨hx, fun hn => hce (hsame x hx hn ▸ hxc.symm)⟩), hxc⟩
  · rw [hdown h]
    rfl
  · rw [hclass]
    split
    · unfold HoldLaw
      simp [hhold, hnone]
    · exact hholds c

/-- An entry changes and its class stays. -/
theorem noticeLaw_updateEntry {s t : State} {n : Byte} {f : NoticeEntry → NoticeEntry} (hs : NoticeLaw s)
    (hentries : t.dispatcher.entries = updated n f s.dispatcher.entries) (hf : SameEntry f)
    (hnext : t.dispatcher.nextNumber = s.dispatcher.nextNumber) (hclasses : t.classes = s.classes)
    (hup : t.session.up = s.session.up) (hcredit : t.session.credit = s.session.credit)
    (hlaw : ∀ e r, EntryLaw e r → EntryLaw (f e) r) : NoticeLaw t := by
  by_cases hn : ∃ e ∈ s.dispatcher.entries, e.number = n
  · obtain ⟨e, he, rfl⟩ := hn
    refine noticeLaw_of_updated hs he hentries hf hnext hup hcredit (r := s.klass e.cls) (fun c => ?_)
      (hlaw _ _ (entryLaw_of_mem hs he)) rfl
    rw [klass_congr hclasses]
    split
    · subst_vars
      rfl
    · rfl
  · have hsame : updated n f s.dispatcher.entries = s.dispatcher.entries := by
      refine (List.map_congr_left fun x hx => ?_).trans (List.map_id _)
      exact if_neg fun hx' => hn ⟨x, hx, hx'⟩
    exact noticeLaw_of_same hs (hentries.trans hsame) hnext hclasses hup hcredit

/-! ### An entry that goes -/

/-- An entry is removed, and its class is left without a notice (R75 to R77). -/
theorem noticeLaw_of_removed {s t : State} {e : NoticeEntry} {r : ClassRecord} (hs : NoticeLaw s) (he : e ∈ s.dispatcher.entries)
    (hentries : t.dispatcher.entries = s.dispatcher.entries.filter fun x => x.number != e.number)
    (hnext : t.dispatcher.nextNumber = s.dispatcher.nextNumber) (hup : t.session.up = s.session.up)
    (hcredit : t.session.credit = s.session.credit) (hclass : ∀ c, t.klass c = if c = e.cls then r else s.klass c)
    (hfree : r.state.inFlight = false ∧ HoldLaw r) : NoticeLaw t := by
  have hother : ∀ x ∈ s.dispatcher.entries, x.cls = e.cls → x = e := fun x hx => entry_eq_of_cls hs he hx
  have hsame : ∀ x ∈ s.dispatcher.entries, x.number = e.number → x = e := fun x hx => entry_eq_of_number hs he hx
  obtain ⟨hlength, hnumbers, hclasses, hentry, hhas, hdown, hroom, hbound, hnonzero, hholds⟩ := noticeLaw_iff.mp hs
  rw [noticeLaw_iff, hentries, hnext, hup, hcredit]
  have hsublist : (s.dispatcher.entries.filter fun x => x.number != e.number).Sublist s.dispatcher.entries := List.filter_sublist
  refine ⟨hsublist.length_le.trans hlength, hnumbers.sublist (hsublist.map _), hclasses.sublist (hsublist.map _), fun x hx => ?_,
    fun c hc => ?_, fun h => by rw [hdown h]; rfl, (hsublist.filter _).length_le.trans hroom, hbound, hnonzero, fun c => ?_⟩
  · obtain ⟨hx, hn⟩ := List.mem_filter.mp hx
    rw [hclass, if_neg (fun hcls => ?_)]
    · exact hentry x hx
    · rw [hother x hx hcls] at hn
      simp at hn
  · have hce : c ≠ e.cls := by
      rintro rfl
      rw [hclass, if_pos rfl, hfree.1] at hc
      cases hc
    rw [hclass, if_neg hce] at hc
    obtain ⟨x, hx, hxc⟩ := hhas c hc
    refine ⟨x, List.mem_filter.mpr ⟨hx, bne_iff_ne.mpr fun hn => hce ?_⟩, hxc⟩
    rw [← hxc, hsame x hx hn]
  · rw [hclass]
    split
    · exact hfree.2
    · exact hholds c

/-- With an empty table no class has a notice (R57, R60, R84). -/
theorem noticeLaw_of_empty {s : State} (hentries : s.dispatcher.entries = []) (hbound : s.session.credit.toNat ≤ 8)
    (hnext : s.dispatcher.nextNumber ≠ 0) (hfree : ∀ c, (s.klass c).state.inFlight = false ∧ HoldLaw (s.klass c)) : NoticeLaw s := by
  rw [noticeLaw_iff, hentries]
  refine ⟨by simp, by simp, by simp, nofun, fun c hc => ?_, fun _ => rfl, by simp, hbound, hnext, fun c => (hfree c).2⟩
  rw [(hfree c).1] at hc
  cases hc

/-! ### An entry that is created -/

theorem createNotice_klass (s : State) (c d : ClassNo) :
    (s.createNotice c).klass d = if d = c then { s.klass c with state := .notified } else s.klass d := by
  have hclasses : (s.createNotice c).classes = (s.setKlass c { s.klass c with state := .notified }).classes := rfl
  rw [klass_congr hclasses, setKlass_klass]

/-- The number that the arbiter takes for the next entry (R65). -/
def takenNumber (s : State) : Byte := freeNumber s.dispatcher.entries s.dispatcher.entries.length s.dispatcher.nextNumber

theorem createNotice_dispatcher (s : State) (c : ClassNo) :
    (s.createNotice c).dispatcher =
      { entries := s.dispatcher.entries ++ [newEntry (takenNumber s) c (s.klass c)], nextNumber := nextNumber (takenNumber s)
        sendList := s.dispatcher.sendList ++
          [{ notice := takenNumber s, cls := c, kind := .first
             payload := noticePayload (newEntry (takenNumber s) c (s.klass c)) false }] } := rfl

theorem pending_of_eligible {s : State} {c : ClassNo} (h : s.eligible c = true) : (s.klass c).state = .pending := by
  simp only [State.eligible, ClassRecord.offered, Bool.and_eq_true, decide_eq_true_eq] at h
  exact h.1.1.2.1

theorem roomFor_of_eligible {s : State} {c : ClassNo} (h : s.eligible c = true) : s.roomFor (s.klass c).settings.critical = true := by
  simp only [State.eligible, Bool.and_eq_true] at h
  exact h.1.2

/-- The number taken is carried by no entry, and it is not 0 (R65). -/
theorem takenNumber_fresh {s : State} {c : ClassNo} (hnext : s.dispatcher.nextNumber ≠ 0) (hc : s.eligible c = true) :
    takenNumber s ≠ 0 ∧ ∀ e ∈ s.dispatcher.entries, e.number ≠ takenNumber s := by
  obtain ⟨k, hnumber, hfree, -⟩ := freeNumber_spec hnext (entries_length_lt_of_eligible hc)
  rw [takenNumber, hnumber]
  exact ⟨iterate_nextNumber_ne_zero hnext k, hfree⟩

theorem noticeLaw_createNotice {s : State} {c : ClassNo} (hs : NoticeLaw s) (hc : s.eligible c = true) : NoticeLaw (s.createNotice c) := by
  have hpending := pending_of_eligible hc
  have hroomFor := roomFor_of_eligible hc
  have hup : s.session.up = true := by
    simp only [State.eligible, Bool.and_eq_true] at hc
    exact hc.1.1.1
  have hnoentry : ∀ e ∈ s.dispatcher.entries, e.cls ≠ c := by
    rintro e he rfl
    have := inFlight_of_entry hs he
    rw [hpending] at this
    cases this
  obtain ⟨hlength, hnumbers, hclasses, hentry, hhas, hdown, hroom, hbound, hnonzero, hholds⟩ := noticeLaw_iff.mp hs
  obtain ⟨hn0, hnfree⟩ := takenNumber_fresh hnonzero hc
  have hsession : (s.createNotice c).session = s.session := by simp
  rw [noticeLaw_iff, createNotice_dispatcher, hsession]
  have hnew : (newEntry (takenNumber s) c (s.klass c)).critical = (s.klass c).settings.critical := rfl
  unfold State.roomFor at hroomFor
  have hfilter := List.length_filter_le (fun e : NoticeEntry => !e.critical) s.dispatcher.entries
  refine ⟨?_, ?_, ?_, fun e he => ?_, fun d hd => ?_, fun h => ?_, ?_, hbound, ?_, fun d => ?_⟩
  · rw [List.length_append, List.length_singleton]
    split at hroomFor <;> simp only [decide_eq_true_eq] at hroomFor <;> omega
  · rw [List.map_append, List.nodup_append]
    refine ⟨hnumbers, by simp, ?_⟩
    simpa [newEntry] using hnfree
  · rw [List.map_append, List.nodup_append]
    refine ⟨hclasses, by simp, ?_⟩
    simpa [newEntry] using hnoentry
  · rw [createNotice_klass]
    obtain he | he := List.mem_append.mp he
    · rw [if_neg (hnoentry e he)]
      exact hentry e he
    · obtain rfl := List.mem_singleton.mp he
      rw [if_pos (show (newEntry (takenNumber s) c (s.klass c)).cls = c from rfl)]
      exact ⟨hn0, rfl, rfl, nofun, nofun, by simp [newEntry], by simp [newEntry]⟩
  · by_cases hdc : d = c
    · exact ⟨_, List.mem_append_right _ (List.mem_singleton.mpr rfl), hdc.symm⟩
    · rw [createNotice_klass, if_neg hdc] at hd
      obtain ⟨x, hx, hxd⟩ := hhas d hd
      exact ⟨x, List.mem_append_left _ hx, hxd⟩
  · rw [h] at hup
    cases hup
  · rw [List.filter_append, List.length_append]
    split at hroomFor
    · rename_i hcritical
      simpa [newEntry, hcritical] using hroom
    · rename_i hcritical
      simp only [decide_eq_true_eq] at hroomFor
      simp only [List.filter_cons, hnew, hcritical, Bool.not_false, if_true, List.filter_nil, List.length_singleton]
      omega
  · exact iterate_nextNumber_ne_zero hn0 1
  · rw [createNotice_klass]
    split
    · have hnone := holdTimer_eq_none_of_ne_held (hholds c) (by simp [hpending])
      unfold HoldLaw
      simp [hnone]
    · exact hholds d

end Sys2Proof.Proofs

/-! ## The law of the notice table, kept by every command -/

namespace Sys2Proof.Proofs

open Sys2Proof Sys2Proof.Machine Sys2Proof.Laws

/-! ### The class records and the table after each operation -/

theorem claimEffect_klass (e : NoticeEntry) (s : State) (c : ClassNo) :
    (claimEffect e s).klass c
      = if c = e.cls then { s.klass e.cls with state := .inService, deadlineTimer := none, late := false } else s.klass c := by
  have hset : ∀ t : State, t.classes = s.classes →
      (t.setKlass e.cls { t.klass e.cls with state := .inService, deadlineTimer := none, late := false }).klass c
        = if c = e.cls then { s.klass e.cls with state := .inService, deadlineTimer := none, late := false } else s.klass c :=
    fun t h => by rw [setKlass_klass, klass_congr h, klass_congr h]
  exact hset _ (by simp)

theorem claimEffect_entries (e : NoticeEntry) (s : State) :
    (claimEffect e s).dispatcher.entries
      = updated e.number (fun x => x.claimed (s.claimListOf e.cls) s.time (s.klass e.cls).settings.limit) s.dispatcher.entries := rfl

theorem expireEffect_entries (e : NoticeEntry) (s : State) :
    (expireEffect e s).dispatcher.entries
      = updated e.number (fun x => { x with state := .expired, serviceTimer := none }) s.dispatcher.entries := rfl

theorem releaseEffect_klass (e : NoticeEntry) (s : State) (c : ClassNo) :
    (releaseEffect e s).klass c
      = if c = e.cls then (s.klass e.cls).settleFresh s.time (s.contributors e.cls) else s.klass c := by
  have hset : ∀ t : State, t.classes = s.classes → t.time = s.time → t.steering = s.steering → t.sources = s.sources →
      (t.setKlass e.cls ((t.klass e.cls).settleFresh t.time (t.contributors e.cls))).klass c
        = if c = e.cls then (s.klass e.cls).settleFresh s.time (s.contributors e.cls) else s.klass c :=
    fun t hclasses htime hsteering hsources => by
      rw [setKlass_klass, klass_congr hclasses, klass_congr hclasses, htime, contributors_congr hsteering hsources]
  unfold releaseEffect
  split
  · exact hset (s.removeEntry e.number) (by simp) (by simp) (by simp) (by simp)
  · exact hset ((s.ask [.finish e.number]).removeEntry e.number) (by simp) (by simp) (by simp) (by simp)

theorem releaseEffect_dispatcher (e : NoticeEntry) (s : State) :
    (releaseEffect e s).dispatcher = (s.dispatcher.dropFrames e.number).remove e.number := by
  unfold releaseEffect
  split <;> rfl

theorem returnEffect_klass (h : Half) (e : NoticeEntry) (s : State) (c : ClassNo) :
    (returnEffect h e s).klass c
      = if c = e.cls then (s.klass e.cls).returned h s.time (s.contributors e.cls) else s.klass c := by
  unfold returnEffect
  rw [setKlass_klass]
  rfl

theorem expireEffect_klass (e : NoticeEntry) (s : State) (c : ClassNo) :
    (expireEffect e s).klass c = if c = e.cls then { s.klass e.cls with state := .expired } else s.klass c := by
  have hclasses : (expireEffect e s).classes = (s.setKlass e.cls { s.klass e.cls with state := .expired }).classes := rfl
  rw [klass_congr hclasses, setKlass_klass]

/-- Teardown reads every class under the sources and the steering it finds (R84). -/
theorem teardown_klass (s : State) (x : EndCause) (k : RecordKind) (o : Option ClassNo) (n : Option Byte) (c : ClassNo) :
    (s.teardown x k o n).klass c = (s.klass c).tornDown s.time (s.contributors c) := by
  have hclasses : (s.teardown x k o n).classes
      = Vector.ofFn fun c => (s.endGrants.klass c).tornDown s.endGrants.time (s.endGrants.contributors c) := by
    simp [State.teardown]
  have hread : (s.teardown x k o n).klass c = (s.endGrants.klass c).tornDown s.endGrants.time (s.endGrants.contributors c) := by
    rw [State.klass, hclasses]
    simp
  have htime : s.endGrants.time = s.time := by simp
  rw [hread, klass_congr (s := s) (by simp), htime, contributors_congr (s := s) (by simp) (by simp)]

@[simp] theorem teardown_entries (s : State) (x : EndCause) (k : RecordKind) (o : Option ClassNo) (n : Option Byte) :
    (s.teardown x k o n).dispatcher.entries = [] := rfl

@[simp] theorem teardown_sendList (s : State) (x : EndCause) (k : RecordKind) (o : Option ClassNo) (n : Option Byte) :
    (s.teardown x k o n).dispatcher.sendList = [] := rfl

@[simp] theorem teardown_up (s : State) (x : EndCause) (k : RecordKind) (o : Option ClassNo) (n : Option Byte) :
    (s.teardown x k o n).session.up = false := rfl

@[simp] theorem teardown_nextNumber (s : State) (x : EndCause) (k : RecordKind) (o : Option ClassNo) (n : Option Byte) :
    (s.teardown x k o n).dispatcher.nextNumber = s.dispatcher.nextNumber := by
  have hnext : (s.teardown x k o n).dispatcher.nextNumber = s.endGrants.dispatcher.nextNumber := rfl
  rw [hnext]
  simp

/-- A profile put in force reads every class from IDLE, under its settings and its steering (R58, R150). -/
theorem loadClasses_klass (s : State) (p : Profile) (c : ClassNo) :
    (s.loadClasses p).klass c = (s.klass c).loaded p.settings[c] s.time (s.contributors c) := klass_ofFn _ _ c

theorem loadEffect_klass (p : Profile) (s : State) (c : ClassNo) :
    (loadEffect p s).klass c = (s.klass c).loaded p.settings[c] s.time ((s.loadTables p).contributors c) := by
  have hclasses : (loadEffect p s).classes = ((s.loadTables p).loadClasses p).classes := rfl
  have htime : (s.loadTables p).time = s.time := by simp
  rw [klass_congr hclasses, loadClasses_klass, klass_congr (s := s) (by simp), htime]

/-- With an empty table no class has a notice (R60). -/
theorem free_of_entries_nil {s : State} (hs : NoticeLaw s) (hentries : s.dispatcher.entries = []) (c : ClassNo) :
    (s.klass c).state.inFlight = false := by
  obtain ⟨-, -, -, -, hhas, -⟩ := noticeLaw_iff.mp hs
  rw [hentries] at hhas
  exact Bool.eq_false_iff.mpr fun hflight => List.not_mem_nil (hhas c hflight).choose_spec.1

/-! ### The entry after each operation -/

theorem sameEntry_frameSent (now : Time) (timeout : Byte) : SameEntry fun e => e.frameSent now timeout := by
  intro e
  beta_reduce
  unfold NoticeEntry.frameSent
  split <;> exact ⟨rfl, rfl, rfl⟩

theorem entryLaw_frameSent {e : NoticeEntry} {r : ClassRecord} (h : EntryLaw e r) (now : Time) (timeout : Byte) :
    EntryLaw (e.frameSent now timeout) r := by
  obtain ⟨hnumber, hstate, hcritical, hanswer, hservice, hlist, htime⟩ := h
  unfold NoticeEntry.frameSent
  split
  · exact ⟨hnumber, hstate, hcritical, fun _ => ‹_›, hservice, hlist, htime⟩
  · exact ⟨hnumber, hstate, hcritical, hanswer, hservice, hlist, htime⟩

theorem entryLaw_answerStopped {e : NoticeEntry} {r : ClassRecord} (h : EntryLaw e r) : EntryLaw { e with answerTimer := none } r := by
  obtain ⟨hnumber, hstate, hcritical, -, hservice, hlist, htime⟩ := h
  exact ⟨hnumber, hstate, hcritical, nofun, hservice, hlist, htime⟩

theorem returned_free {r : ClassRecord} (h : Half) (now : Time) (found : List SourceNo) :
    (r.returned h now found).state.inFlight = false ∧ HoldLaw (r.returned h now found) := by
  unfold ClassRecord.returned
  split
  · exact settleContinued_free r found
  · exact ⟨rfl, fun _ => rfl⟩

section Operations

variable {s : State} (hs : NoticeLaw s)
include hs

theorem noticeLaw_claim {e : NoticeEntry} (he : e ∈ s.dispatcher.entries) : NoticeLaw (claimEffect e s) := by
  obtain ⟨hnumber, -, hcritical, -⟩ := entryLaw_of_mem hs he
  refine noticeLaw_of_updated hs he (claimEffect_entries e s) (fun _ => ⟨rfl, rfl, rfl⟩) rfl (by simp) (by simp) (claimEffect_klass e s)
    ⟨hnumber, rfl, hcritical, nofun, fun _ => rfl, ?_, ?_⟩ rfl
  all_goals simp [NoticeEntry.claimed]

theorem noticeLaw_release {e : NoticeEntry} (he : e ∈ s.dispatcher.entries) : NoticeLaw (releaseEffect e s) :=
  noticeLaw_of_removed hs he (by rw [releaseEffect_dispatcher]; rfl) (by rw [releaseEffect_dispatcher]; rfl) (by simp) (by simp)
    (releaseEffect_klass e s) (settleFresh_free (holdTimer_of_entry hs he))

theorem noticeLaw_return {e : NoticeEntry} (h : Half) (he : e ∈ s.dispatcher.entries) : NoticeLaw (returnEffect h e s) :=
  noticeLaw_of_removed hs he rfl rfl (by simp) (by simp) (returnEffect_klass h e s) (returned_free h _ _)

theorem noticeLaw_expired {e : NoticeEntry} (he : e ∈ s.dispatcher.entries) (htimer : e.serviceTimer.isSome) :
    NoticeLaw (expireEffect e s) := by
  have hstate := inService_of_serviceTimer hs he htimer
  obtain ⟨hnumber, -, hcritical, hanswer, -, hlist, htime⟩ := entryLaw_of_mem hs he
  rw [hstate] at hanswer hlist htime
  exact noticeLaw_of_updated hs he (expireEffect_entries e s) (fun _ => ⟨rfl, rfl, rfl⟩) rfl (by simp) (by simp) (expireEffect_klass e s)
    ⟨hnumber, rfl, hcritical, fun h => (nomatch hanswer h), nofun, by simpa using hlist, by simpa using htime⟩ rfl

theorem noticeLaw_teardown (x : EndCause) (k : RecordKind) (o : Option ClassNo) (n : Option Byte) : NoticeLaw (s.teardown x k o n) := by
  obtain ⟨-, -, -, -, -, -, -, hbound, hnonzero, hholds⟩ := noticeLaw_iff.mp hs
  refine noticeLaw_of_empty rfl (by simpa using hbound) (by simpa using hnonzero) fun c => ?_
  rw [teardown_klass]
  exact tornDown_free (hholds c) _ _

theorem noticeLaw_openWith {p : SessionParams} (hdown : s.session.up = false) (hcredit : p.credit.toNat ≤ 8) :
    NoticeLaw (s.openWith p) := by
  have hentries := entries_of_down hs hdown
  exact noticeLaw_of_empty hentries hcredit (show (1 : Byte) ≠ 0 by decide)
    fun c => ⟨free_of_entries_nil hs hentries c, holdLaw_klass hs c⟩

theorem noticeLaw_load (p : Profile) (hentries : s.dispatcher.entries = []) : NoticeLaw (loadEffect p s) := by
  obtain ⟨-, -, -, -, -, -, -, hbound, hnonzero, -⟩ := noticeLaw_iff.mp hs
  refine noticeLaw_of_empty (by simpa using hentries) (by simpa using hbound) (by simpa using hnonzero) fun c => ?_
  rw [loadEffect_klass]
  exact loaded_free _ _ _ _

end Operations

/-- Every operation of the commands keeps the law of the notice table. -/
theorem kept_noticeLaw : Kept fun _ => NoticeLaw where
  free _ _ _ _ _ hs := noticeLaw_of_same hs rfl rfl rfl rfl rfl
  straps _ _ hs := noticeLaw_of_same hs rfl rfl rfl rfl rfl
  power _ _ hs := noticeLaw_of_same hs rfl rfl rfl rfl rfl
  waitQuiet _ _ hs _ _ := noticeLaw_of_same hs rfl rfl rfl rfl rfl
  discard hs := noticeLaw_of_same hs rfl rfl rfl rfl rfl
  enterWindow _ hs _ := noticeLaw_of_same hs rfl rfl rfl rfl rfl
  frameFails hs := noticeLaw_of_same hs rfl rfl rfl rfl rfl
  receiveTo _ hs _ _ _ := noticeLaw_of_same hs rfl rfl rfl rfl rfl
  enqueue _ _ hs _ := noticeLaw_of_same hs rfl rfl rfl rfl rfl
  sendStart hs _ := noticeLaw_of_same hs rfl rfl rfl rfl rfl
  sendAnswer hs _ _ := noticeLaw_of_same hs rfl rfl rfl rfl rfl
  sendNotice hs _ _ := noticeLaw_of_same hs rfl rfl rfl rfl rfl
  startSent hs _ _ := noticeLaw_of_same hs rfl rfl rfl rfl rfl
  answerSent hs _ _ := noticeLaw_of_same hs rfl rfl rfl rfl rfl
  noticeSent hs _ _ := noticeLaw_updateEntry hs rfl (sameEntry_frameSent _ _) rfl rfl rfl rfl fun _ _ h => entryLaw_frameSent h _ _
  otherSent hs _ _ := noticeLaw_of_same hs rfl rfl rfl rfl rfl
  rawChange _ _ hs := noticeLaw_of_same hs (by simp) (by simp) (by simp) (by simp) (by simp)
  qualified hs _ := noticeLaw_of_same hs (by simp) (by simp) (by simp) (by simp) (by simp)
  force hs _ _ := noticeLaw_of_same hs (by simp) (by simp) (by simp) (by simp) (by simp)
  steerTo hs _ _ _ := noticeLaw_of_unseen hs (by simp) (by simp) (by simp) (by simp) fun c => unseen_steerTo (holdLaw_klass hs) _ _ c
  takeReport {s r} hs _ := by
    refine noticeLaw_of_unseen hs (by simp) (by simp) (by simp) (by simp) fun c => ?_
    unfold State.takeReport
    refine unseen_setKlass ?_ c
    split
    · exact unseen_reportOn (holdLaw_klass hs r.cls) _ _
    · exact unseen_reportOff _ _
  deadline {s c} hs _ := noticeLaw_of_unseen hs rfl rfl rfl rfl fun d =>
    unseen_setKlass (r := { s.klass c with deadlineTimer := none, late := true }) (.inl ⟨rfl, rfl, rfl⟩) d
  hold {s c} hs htimer := noticeLaw_setKlass hs
    (.inr ⟨by rw [holdLaw_klass hs c htimer]; rfl, settleContinued_free _ _⟩)
  withSettings {_ s c} x hs hfree := noticeLaw_setKlass hs (unseen_withSettings (holdLaw_klass hs c) hfree x _)
  setMasks m b hs := noticeLaw_of_unseen hs (by simp) (by simp) (by simp) (by simp) fun c => unseen_setMasks _ m b c
  alarmOff hs _ := noticeLaw_of_same hs rfl rfl rfl rfl rfl
  createNotice hs hc := noticeLaw_createNotice hs hc
  claim hs _ he _ := noticeLaw_claim hs he
  release hs _ he _ := noticeLaw_release hs he
  returned h hs _ he _ := noticeLaw_return hs h he
  repeated hs _ _ _ := noticeLaw_updateEntry (f := fun x => { x with answerTimer := none }) hs rfl (fun _ => ⟨rfl, rfl, rfl⟩) rfl rfl rfl rfl fun _ _ h => entryLaw_answerStopped h
  exhausted hs _ _ _ := noticeLaw_updateEntry (f := fun x => { x with answerTimer := none }) hs rfl (fun _ => ⟨rfl, rfl, rfl⟩) rfl rfl rfl rfl fun _ _ h => entryLaw_answerStopped h
  expired hs he htimer := noticeLaw_expired hs he htimer
  takeAsk hs _ := noticeLaw_of_same hs (by simp [State.popAsk]) (by simp [State.popAsk]) (by simp [State.popAsk])
    (by simp [State.popAsk]) (by simp [State.popAsk])
  takeWithdrawal hs _ := noticeLaw_of_same hs (by simp) (by simp) (by simp) (by simp) (by simp)
  guardEnds hs _ := noticeLaw_of_same hs rfl rfl rfl rfl rfl
  repair hs _ _ _ := noticeLaw_of_same hs rfl rfl rfl rfl rfl
  openWith hs hdown hcredit _ := noticeLaw_openWith hs hdown hcredit
  teardown _ _ _ _ hs _ := noticeLaw_teardown hs _ _ _ _
  beginSave hs _ := noticeLaw_of_same hs rfl rfl rfl rfl rfl
  saved hs _ := noticeLaw_of_same hs rfl rfl rfl rfl rfl
  beginSetBoot _ hs _ := noticeLaw_of_same hs rfl rfl rfl rfl rfl
  bootSet hs _ := noticeLaw_of_same hs rfl rfl rfl rfl rfl
  load hs _ hentries _ := noticeLaw_load hs _ hentries

theorem noticeLaw_tick {s : State} (hs : NoticeLaw s) : NoticeLaw s.tick := by
  obtain ⟨-, h⟩ | ⟨-, -, h⟩ | ⟨-, -, h⟩ := tick_cases s
  all_goals rw [h]
  · exact hs
  · exact noticeLaw_of_same hs rfl rfl rfl rfl rfl
  · exact noticeLaw_of_same hs rfl rfl rfl rfl rfl

theorem noticeLaw_beginsReset {s t : State} (ht : BeginsReset s t) : NoticeLaw t := by
  obtain ⟨cause, l, p, -, rfl⟩ := ht
  refine noticeLaw_of_empty rfl (show (0 : Byte).toNat ≤ 8 by decide) (show (1 : Byte) ≠ 0 by decide) fun c => ?_
  have hclass : (({ s with link := l }.beginReset cause).klass c) = resetClass (s.klass c).settings := by
    simp [State.beginReset, State.klass]
  exact hclass ▸ ⟨rfl, nofun⟩

/-! ### Start-up -/

theorem inReset_of_storeRead {p : ResetUnit} (h : p.storeRead = true) : p.inReset = true := by
  simp only [ResetUnit.storeRead, Bool.and_eq_true] at h
  exact h.1.1

theorem startUp_entries (s : State) : s.startUp.dispatcher.entries = s.dispatcher.entries := by
  simp [State.startUp, State.enableReceiver, State.journalStartUp, State.leaveReset]

theorem startUp_nextNumber (s : State) : s.startUp.dispatcher.nextNumber = s.dispatcher.nextNumber := by
  simp [State.startUp, State.enableReceiver, State.journalStartUp, State.leaveReset]

theorem startUp_credit (s : State) : s.startUp.session.credit = s.session.credit := by
  simp [State.startUp, State.enableReceiver, State.journalStartUp, State.leaveReset]

/-- Start-up reads every class from IDLE at reading 0 (R160 step 5). -/
theorem startUp_klass (s : State) (c : ClassNo) :
    ∃ found, s.startUp.klass c = (s.klass c).loaded s.store.bootChoice.2.settings[c] 0 found := by
  have hloaded : ∀ (p : Profile) (t u : State), u.classes = (t.loadClasses p).classes → t.classes = s.classes → t.time = 0 →
      ∃ found, u.klass c = (s.klass c).loaded p.settings[c] 0 found :=
    fun p t u hu ht htime => ⟨_, by rw [klass_congr hu, loadClasses_klass, klass_congr ht, htime]⟩
  refine hloaded _ ((({ s.leaveReset with
    store := { s.leaveReset.store with bootOutcome := s.store.bootChoice.1 } } : State).loadTables
      s.store.bootChoice.2).journalStartUp) _ ?_ ?_ ?_
  · rw [startUp_eq]
    simp [State.enableReceiver]
  · simp [State.journalStartUp, State.leaveReset]
  · simp [State.journalStartUp, State.leaveReset]

theorem noticeLaw_startUp {s : State} (hs : ResetLaw s) (hread : s.power.storeRead = true) : NoticeLaw s.startUp := by
  obtain ⟨-, -, -, -, hdispatcher, -, -, hsession, -⟩ := hs (inReset_of_storeRead hread)
  refine noticeLaw_of_empty ?_ ?_ ?_ fun c => ?_
  · rw [startUp_entries, hdispatcher]
    rfl
  · rw [startUp_credit, hsession]
    decide
  · rw [startUp_nextNumber, hdispatcher]
    decide
  · obtain ⟨found, hclass⟩ := startUp_klass s c
    rw [hclass]
    exact loaded_free _ _ _ _

theorem resetLaw_queue {s : State} (hs : ResetLaw s) (q : List Instr) : ResetLaw { s with pending := q } := hs

end Sys2Proof.Proofs

/-! ## The notice send list

How many frames of each entry are still to be sent, and what each operation makes of that number. -/

namespace Sys2Proof.Proofs

open Sys2Proof Sys2Proof.Machine Sys2Proof.Laws

/-- The entry that a frame of the notice send list belongs to (R66). -/
def Belongs (f : NoticeFrame) (e : NoticeEntry) : Prop := e.number = f.notice ∧ e.cls = f.cls ∧ e.state = f.kind.waitsIn

/-- What an entry with `k` NOTICE frames still to be completed has sent, under a retry limit (R59, R66, R69, R70). -/
def Budget (e : NoticeEntry) (k limit : Nat) : Prop := k ≤ 1 ∧ (e.answerTimer.isSome → k = 0) ∧ e.sent + k ≤ limit + 1

theorem sendListLaw_iff {s : State} : SendListLaw s ↔
    (s.dispatcher.sendList.map (·.notice)).Nodup
    ∧ (∀ f ∈ s.dispatcher.sendList, ∃ e ∈ s.dispatcher.entries, Belongs f e)
    ∧ (∀ n, s.noticeUnderWay = some n → ∃ e ∈ s.dispatcher.entries, e.number = n)
    ∧ (∀ e ∈ s.dispatcher.entries, Budget e (s.noticesToSend e.number) s.session.retryLimit.toNat)
    ∧ s.session.retryLimit.toNat ≤ 7 := by
  constructor
  · rintro ⟨hnodup, hframes, hway, hone, htimer, hsent, hlimit⟩
    exact ⟨hnodup, hframes, hway, fun e he => ⟨hone e he, htimer e he, hsent e he⟩, hlimit⟩
  · rintro ⟨hnodup, hframes, hway, hbudget, hlimit⟩
    exact ⟨hnodup, hframes, hway, fun e he => (hbudget e he).1, fun e he => (hbudget e he).2.1, fun e he => (hbudget e he).2.2, hlimit⟩

/-! ### The frames still to be sent -/

/-- The NOTICE frames of `n` on a list, and the one under way. -/
def toSend (l : List NoticeFrame) (way : Option Byte) (n : Byte) : Nat :=
  (l.filter fun f => f.notice == n && decide (f.kind ≠ .overdue)).length + (if way = some n then 1 else 0)

theorem noticesToSend_eq (s : State) (n : Byte) : s.noticesToSend n = toSend s.dispatcher.sendList s.noticeUnderWay n := rfl

theorem toSend_append (l : List NoticeFrame) (f : NoticeFrame) (way : Option Byte) (n : Byte) :
    toSend (l ++ [f]) way n = toSend l way n + if f.notice = n ∧ f.kind ≠ .overdue then 1 else 0 := by
  simp only [toSend, List.filter_append, List.length_append, List.filter_cons, List.filter_nil, Bool.and_eq_true, beq_iff_eq,
    decide_eq_true_eq]
  split
  · simp only [List.length_singleton]
    omega
  · simp

/-- A frame that begins to be sent leaves the list and is under way (R66). -/
theorem toSend_erase {l : List NoticeFrame} {f : NoticeFrame} (hf : f ∈ l) (n : Byte) :
    toSend (l.erase f) (if f.kind = .overdue then none else some f.notice) n = toSend l none n := by
  have hperm := ((List.perm_cons_erase hf).filter fun f => f.notice == n && decide (f.kind ≠ .overdue)).length_eq
  simp only [toSend, hperm, List.filter_cons, Bool.and_eq_true, beq_iff_eq, decide_eq_true_eq]
  by_cases hkind : f.kind = .overdue
  · simp [hkind]
  · by_cases hn : f.notice = n
    · simp [hkind, hn]
    · simp [hkind, hn]

theorem toSend_filter_le (l : List NoticeFrame) (p : NoticeFrame → Bool) (way : Option Byte) (n : Byte) :
    toSend (l.filter p) way n ≤ toSend l way n := by
  have := (List.filter_sublist (p := p) (l := l)).filter fun f => f.notice == n && decide (f.kind ≠ .overdue)
  exact Nat.add_le_add_right this.length_le _

/-- An entry with no frame on the list and none under way has none to be sent. -/
theorem toSend_eq_zero {l : List NoticeFrame} {way : Option Byte} {n : Byte} (hlist : ∀ f ∈ l, f.notice ≠ n) (hway : way ≠ some n) :
    toSend l way n = 0 := by
  have hnone : (l.filter fun f => f.notice == n && decide (f.kind ≠ .overdue)) = [] :=
    List.filter_eq_nil_iff.mpr fun f hf => by simp [hlist f hf]
  rw [toSend, hnone, if_neg hway]
  rfl

theorem toSend_some_self (l : List NoticeFrame) (n : Byte) : toSend l (some n) n = toSend l none n + 1 := by simp [toSend]

theorem toSend_some_of_ne (l : List NoticeFrame) {n m : Byte} (h : m ≠ n) : toSend l (some n) m = toSend l none m := by
  simp [toSend, h.symm]

/-! ### What is under way -/

theorem noticeUnderWay_of_notice {s : State} {t : Sending} {n : Option Byte} (htx : s.link.tx = some t) (horigin : t.origin = .notice n) :
    s.noticeUnderWay = n := by
  simp only [State.noticeUnderWay, htx, horigin]

theorem noticeUnderWay_of_idle {s : State} (h : s.link.tx = none) : s.noticeUnderWay = none := by
  unfold State.noticeUnderWay
  rw [h]

theorem noticeUnderWay_congr {s t : State} (h : t.link.tx = s.link.tx) : t.noticeUnderWay = s.noticeUnderWay := by
  unfold State.noticeUnderWay
  rw [h]

/-- An entry that is removed takes its number from the frame under way (R68). -/
theorem noticeUnderWay_of_detach {s t : State} {gone : Byte → Bool} (h : t.link.tx = s.link.tx.map fun x => x.detach gone) :
    t.noticeUnderWay = s.noticeUnderWay.filter fun n => !gone n := by
  unfold State.noticeUnderWay
  rw [h]
  cases s.link.tx with
  | none => rfl
  | some x =>
    obtain ⟨frame, origin, ends⟩ := x
    cases origin with
    | notice n =>
      cases n with
      | none => rfl
      | some n =>
        by_cases hn : gone n = true
        all_goals simp [Sending.detach, hn, Option.filter]
    | start | answer _ _ | overdue => rfl

/-! ### The law under each change -/

section Changes

variable {s t : State} (hs : SendListLaw s)
include hs

theorem sendListLaw_of_same (hlist : t.dispatcher.sendList = s.dispatcher.sendList)
    (hentries : t.dispatcher.entries = s.dispatcher.entries) (hway : t.noticeUnderWay = s.noticeUnderWay)
    (hlimit : t.session.retryLimit = s.session.retryLimit) : SendListLaw t := by
  unfold SendListLaw at hs ⊢
  simp only [noticesToSend_eq] at hs ⊢
  rwa [hlist, hentries, hway, hlimit]

/-- The dispatcher, the transmitter and the session stay. -/
theorem sendListLaw_of_frame (hdispatcher : t.dispatcher = s.dispatcher) (htx : t.link.tx = s.link.tx)
    (hlimit : t.session.retryLimit = s.session.retryLimit) : SendListLaw t :=
  sendListLaw_of_same hs (by rw [hdispatcher]) (by rw [hdispatcher]) (noticeUnderWay_congr htx) hlimit

/-- An idle transmitter begins, or one falls idle, with a frame that no entry waits for. -/
theorem sendListLaw_of_none (hway : s.noticeUnderWay = none) (hdispatcher : t.dispatcher = s.dispatcher)
    (hnone : t.noticeUnderWay = none) (hlimit : t.session.retryLimit = s.session.retryLimit) : SendListLaw t :=
  sendListLaw_of_same hs (by rw [hdispatcher]) (by rw [hdispatcher]) (by rw [hway, hnone]) hlimit

theorem sendListLaw_sendNotice (hidle : s.link.tx = none) {f : NoticeFrame} (hf : f ∈ s.dispatcher.sendList) :
    SendListLaw (s.sendNotice f) := by
  have hway := noticeUnderWay_of_idle hidle
  have hway' : (s.sendNotice f).noticeUnderWay = if f.kind = .overdue then none else some f.notice := by
    unfold State.noticeUnderWay State.sendNotice
    cases f.kind <;> rfl
  have hlist : (s.sendNotice f).dispatcher.sendList = s.dispatcher.sendList.erase f := rfl
  obtain ⟨hnodup, hframes, -, hbudget, hlimit⟩ := sendListLaw_iff.mp hs
  rw [sendListLaw_iff]
  simp only [noticesToSend_eq, hlist, hway', sendNotice_frame, toSend_erase hf]
  refine ⟨hnodup.sublist (List.erase_sublist.map _), fun g hg => hframes g (List.mem_of_mem_erase hg), fun n hn => ?_, ?_, hlimit⟩
  · split at hn <;> cases hn
    obtain ⟨e, he, hnumber, -⟩ := hframes f hf
    exact ⟨e, he, hnumber⟩
  · simpa only [noticesToSend_eq, hway] using hbudget

/-- The completion of a NOTICE frame raises the sent count of its entry and starts the answer timer (R68). -/
theorem sendListLaw_noticeSent {n : Byte} {now : Time} {timeout : Byte} (hway : s.noticeUnderWay = some n)
    (hlist : t.dispatcher.sendList = s.dispatcher.sendList)
    (hentries : t.dispatcher.entries = updated n (fun e => e.frameSent now timeout) s.dispatcher.entries)
    (hway' : t.noticeUnderWay = none) (hlimit : t.session.retryLimit = s.session.retryLimit) : SendListLaw t := by
  obtain ⟨hnodup, hframes, -, hbudget, hbound⟩ := sendListLaw_iff.mp hs
  rw [sendListLaw_iff]
  simp only [noticesToSend_eq, hway, hlist, hentries, hway', hlimit] at hbudget ⊢
  refine ⟨hnodup, fun f hf => ?_, nofun, fun y hy => ?_, hbound⟩
  · obtain ⟨e, he, hnumber, hcls, hstate⟩ := hframes f hf
    refine ⟨if e.number = n then e.frameSent now timeout else e, List.mem_map.mpr ⟨e, he, rfl⟩, ?_⟩
    unfold Belongs NoticeEntry.frameSent
    split
    · split <;> exact ⟨hnumber, hcls, hstate⟩
    · exact ⟨hnumber, hcls, hstate⟩
  · obtain ⟨e, he, hn, rfl⟩ | ⟨hy, hn⟩ := mem_updated.mp hy
    · obtain ⟨hone, -, hsent⟩ := hbudget e he
      have hnumber : (e.frameSent now timeout).number = n := by rw [(sameEntry_frameSent now timeout e).1, hn]
      have hcount : (e.frameSent now timeout).sent = e.sent + 1 := by
        unfold NoticeEntry.frameSent
        split <;> rfl
      rw [hn, toSend_some_self] at hone hsent
      rw [hnumber]
      exact ⟨by omega, fun _ => by omega, by rw [hcount]; omega⟩
    · exact toSend_some_of_ne s.dispatcher.sendList hn ▸ hbudget y hy

/-- An entry changes and keeps its state, its sent count rises not, and its answer timer is no longer running or was before. -/
theorem sendListLaw_answerStopped {n : Byte} (hlist : t.dispatcher.sendList = s.dispatcher.sendList)
    (hentries : t.dispatcher.entries = updated n (fun e => { e with answerTimer := none }) s.dispatcher.entries)
    (hway : t.noticeUnderWay = s.noticeUnderWay) (hlimit : t.session.retryLimit = s.session.retryLimit) : SendListLaw t := by
  obtain ⟨hnodup, hframes, hway', hbudget, hbound⟩ := sendListLaw_iff.mp hs
  rw [sendListLaw_iff]
  simp only [noticesToSend_eq, hlist, hentries, hway, hlimit] at hbudget ⊢
  have hmem : ∀ e ∈ s.dispatcher.entries, ∃ y ∈ updated n (fun e => { e with answerTimer := none }) s.dispatcher.entries,
      y.number = e.number ∧ y.cls = e.cls ∧ y.state = e.state := fun e he =>
    ⟨if e.number = n then { e with answerTimer := none } else e, List.mem_map.mpr ⟨e, he, rfl⟩, by split <;> exact ⟨rfl, rfl, rfl⟩⟩
  refine ⟨hnodup, fun f hf => ?_, fun m hm => ?_, fun y hy => ?_, hbound⟩
  · obtain ⟨e, he, hnumber, hcls, hstate⟩ := hframes f hf
    obtain ⟨y, hy, hnumber', hcls', hstate'⟩ := hmem e he
    exact ⟨y, hy, hnumber'.trans hnumber, hcls'.trans hcls, hstate'.trans hstate⟩
  · obtain ⟨e, he, hnumber⟩ := hway' m hm
    obtain ⟨y, hy, hnumber', -⟩ := hmem e he
    exact ⟨y, hy, hnumber'.trans hnumber⟩
  · obtain ⟨e, he, -, rfl⟩ | ⟨hy, -⟩ := mem_updated.mp hy
    · obtain ⟨hone, -, hsent⟩ := hbudget e he
      exact ⟨hone, nofun, hsent⟩
    · exact hbudget y hy

/-- The frames of an entry leave the list; the entry changes, its answer timer stopped, or goes (R66). -/
theorem sendListLaw_dropped {n : Byte} (hlist : t.dispatcher.sendList = s.dispatcher.sendList.filter fun f => f.notice != n)
    (hway : ∀ m, t.noticeUnderWay = some m → s.noticeUnderWay = some m ∧ ∃ e ∈ t.dispatcher.entries, e.number = m)
    (hother : ∀ e ∈ s.dispatcher.entries, e.number ≠ n → e ∈ t.dispatcher.entries)
    (hentry : ∀ y ∈ t.dispatcher.entries, (y ∈ s.dispatcher.entries ∧ y.number ≠ n)
      ∨ ∃ e ∈ s.dispatcher.entries, y.number = e.number ∧ y.sent = e.sent ∧ y.answerTimer = none)
    (hlimit : t.session.retryLimit = s.session.retryLimit) : SendListLaw t := by
  obtain ⟨hnodup, hframes, -, hbudget, hbound⟩ := sendListLaw_iff.mp hs
  have hle : ∀ m, t.noticesToSend m ≤ s.noticesToSend m := fun m => by
    have hfilter := toSend_filter_le s.dispatcher.sendList (fun f => f.notice != n) s.noticeUnderWay m
    have hdrop : toSend (s.dispatcher.sendList.filter fun f => f.notice != n) t.noticeUnderWay m
        ≤ toSend (s.dispatcher.sendList.filter fun f => f.notice != n) s.noticeUnderWay m := by
      unfold toSend
      refine Nat.add_le_add_left ?_ _
      split
      · rw [if_pos (hway m ‹_›).1]
      · exact Nat.zero_le _
    rw [noticesToSend_eq, noticesToSend_eq, hlist]
    exact hdrop.trans hfilter
  rw [sendListLaw_iff, hlimit, hlist]
  refine ⟨hnodup.sublist (List.filter_sublist.map _), fun f hf => ?_, fun m hm => (hway m hm).2, fun y hy => ?_, hbound⟩
  · obtain ⟨hf, hn⟩ := List.mem_filter.mp hf
    obtain ⟨e, he, hbelongs⟩ := hframes f hf
    exact ⟨e, hother e he (hbelongs.1 ▸ bne_iff_ne.mp hn), hbelongs⟩
  · obtain ⟨hy, -⟩ | ⟨e, he, hnumber, hsent, htimer⟩ := hentry y hy
    · obtain ⟨hone, hstill, hcount⟩ := hbudget y hy
      have := hle y.number
      exact ⟨by omega, fun h => by have := hstill h; omega, by omega⟩
    · obtain ⟨hone, -, hcount⟩ := hbudget e he
      have := hle e.number
      rw [hnumber]
      exact ⟨by omega, by simp [htimer], by omega⟩

/-- A frame joins for an entry that had none on the list (R66, R70, R79). -/
theorem sendListLaw_joined {f : NoticeFrame} (hlist : t.dispatcher.sendList = s.dispatcher.sendList ++ [f])
    (hway : t.noticeUnderWay = s.noticeUnderWay) (hfresh : ∀ g ∈ s.dispatcher.sendList, g.notice ≠ f.notice)
    (hf : ∃ e ∈ t.dispatcher.entries, Belongs f e)
    (hother : ∀ e ∈ s.dispatcher.entries, e.number ≠ f.notice → e ∈ t.dispatcher.entries)
    (hentry : ∀ y ∈ t.dispatcher.entries, (y ∈ s.dispatcher.entries ∧ y.number ≠ f.notice) ∨
      (y.number = f.notice ∧ Budget y (s.noticesToSend f.notice + if f.kind ≠ .overdue then 1 else 0) s.session.retryLimit.toNat))
    (hlimit : t.session.retryLimit = s.session.retryLimit) : SendListLaw t := by
  obtain ⟨hnodup, hframes, hway', hbudget, hbound⟩ := sendListLaw_iff.mp hs
  have hcount : ∀ m, t.noticesToSend m = s.noticesToSend m + if f.notice = m ∧ f.kind ≠ .overdue then 1 else 0 := fun m => by
    rw [noticesToSend_eq, noticesToSend_eq, hlist, hway, toSend_append]
  rw [sendListLaw_iff, hlimit, hlist, hway]
  refine ⟨?_, fun g hg => ?_, fun m hm => ?_, fun y hy => ?_, hbound⟩
  · rw [List.map_append, List.nodup_append]
    refine ⟨hnodup, by simp, ?_⟩
    simpa using hfresh
  · obtain hg | hg := List.mem_append.mp hg
    · obtain ⟨e, he, hbelongs⟩ := hframes g hg
      exact ⟨e, hother e he (hbelongs.1 ▸ hfresh g hg), hbelongs⟩
    · obtain rfl := List.mem_singleton.mp hg
      exact hf
  · obtain ⟨e, he, hnumber⟩ := hway' m hm
    by_cases hn : e.number = f.notice
    · obtain ⟨x, hx, hbelongs⟩ := hf
      exact ⟨x, hx, by rw [hbelongs.1, ← hn, hnumber]⟩
    · exact ⟨e, hother e he hn, hnumber⟩
  · rw [hcount]
    obtain ⟨hy, hn⟩ | ⟨hn, hy⟩ := hentry y hy
    · rw [if_neg (fun h => hn h.1.symm)]
      exact hbudget y hy
    · simpa [hn] using hy

end Changes

/-- With an empty table, an empty list and nothing under way there is nothing to keep. -/
theorem sendListLaw_of_empty {s : State} (hentries : s.dispatcher.entries = []) (hlist : s.dispatcher.sendList = [])
    (hway : s.noticeUnderWay = none) (hlimit : s.session.retryLimit.toNat ≤ 7) : SendListLaw s := by
  rw [sendListLaw_iff, hentries, hlist, hway]
  exact ⟨by simp, nofun, nofun, nofun, hlimit⟩

/-- A frame needs an entry: with an empty table nothing is on the list or under way (R66, R68). -/
theorem nothing_of_entries_nil {s : State} (hs : SendListLaw s) (hentries : s.dispatcher.entries = []) :
    s.dispatcher.sendList = [] ∧ s.noticeUnderWay = none := by
  obtain ⟨-, hframes, hway, -⟩ := sendListLaw_iff.mp hs
  rw [hentries] at hframes hway
  constructor
  · exact List.eq_nil_iff_forall_not_mem.mpr fun f hf => List.not_mem_nil (hframes f hf).choose_spec.1
  · exact Option.eq_none_iff_forall_ne_some.mpr fun n hn => List.not_mem_nil (hway n hn).choose_spec.1

end Sys2Proof.Proofs

/-! ## O8: the laws of the notice table and of the notice send list -/

namespace Sys2Proof.Proofs

open Sys2Proof Sys2Proof.Machine Sys2Proof.Laws

/-- The laws of the notice table and of the notice send list. -/
def NoticeLaws (s : State) : Prop := NoticeLaw s ∧ SendListLaw s

theorem sendListLaw_claim {s : State} (hs : SendListLaw s) (e : NoticeEntry) : SendListLaw (claimEffect e s) := by
  have hentries := claimEffect_entries e s
  obtain ⟨-, -, hway, -⟩ := sendListLaw_iff.mp hs
  have hway' : (claimEffect e s).noticeUnderWay = s.noticeUnderWay := noticeUnderWay_congr (by simp)
  refine sendListLaw_dropped (n := e.number) hs rfl (fun m hm => ?_) (fun x hx hne => ?_) (fun y hy => ?_) (by simp)
  · rw [hway'] at hm
    obtain ⟨x, hx, hnumber⟩ := hway m hm
    refine ⟨hm, ?_⟩
    rw [hentries]
    exact ⟨_, List.mem_map.mpr ⟨x, hx, rfl⟩, by split <;> exact hnumber⟩
  · rw [hentries]
    exact mem_updated.mpr (.inr ⟨hx, hne⟩)
  · rw [hentries] at hy
    obtain ⟨x, hx, -, rfl⟩ | hy := mem_updated.mp hy
    · exact .inr ⟨x, hx, rfl, rfl, rfl⟩
    · exact .inl hy

/-- An entry that is removed takes its frames with it, and its number from the frame under way (R66, R68, R75 to R77). -/
theorem sendListLaw_removed {s t : State} (hs : SendListLaw s) {e : NoticeEntry} (hdispatcher : t.dispatcher = (s.dispatcher.dropFrames e.number).remove e.number)
    (htx : t.link.tx = s.link.tx.map fun x => x.detach fun m => m == e.number) (hlimit : t.session.retryLimit = s.session.retryLimit) :
    SendListLaw t := by
  obtain ⟨-, -, hway, -⟩ := sendListLaw_iff.mp hs
  have hmem : ∀ x, x ∈ t.dispatcher.entries ↔ x ∈ s.dispatcher.entries ∧ x.number ≠ e.number := fun x => by
    simp [hdispatcher, Dispatcher.remove, Dispatcher.dropFrames]
  refine sendListLaw_dropped (n := e.number) hs (by rw [hdispatcher]; rfl) (fun m hm => ?_) (fun x hx hne => (hmem x).mpr ⟨hx, hne⟩)
    (fun y hy => .inl ((hmem y).mp hy)) hlimit
  rw [noticeUnderWay_of_detach htx, Option.filter_eq_some_iff] at hm
  obtain ⟨hm, hne⟩ := hm
  obtain ⟨x, hx, hnumber⟩ := hway m hm
  exact ⟨hm, x, (hmem x).mpr ⟨hx, by simpa [hnumber] using hne⟩, hnumber⟩

section Operations

variable {s : State} (hn : NoticeLaw s) (hs : SendListLaw s)
include hn hs

/-- The number taken is new to the list and to the transmitter too, since every frame belongs to an entry (R65, R66, R68). -/
theorem sendListLaw_createNotice {c : ClassNo} (hc : s.eligible c = true) : SendListLaw (s.createNotice c) := by
  obtain ⟨-, -, -, -, -, -, -, -, hnonzero, -⟩ := noticeLaw_iff.mp hn
  obtain ⟨-, hfree⟩ := takenNumber_fresh hnonzero hc
  obtain ⟨-, hframes, hway, -, hlimit⟩ := sendListLaw_iff.mp hs
  have hlist : ∀ g ∈ s.dispatcher.sendList, g.notice ≠ takenNumber s := fun g hg => by
    obtain ⟨e, he, hnumber, -⟩ := hframes g hg
    exact hnumber ▸ hfree e he
  have hnoway : s.noticeUnderWay ≠ some (takenNumber s) := fun h => by
    obtain ⟨e, he, hnumber⟩ := hway _ h
    exact hfree e he hnumber
  have hnone : s.noticesToSend (takenNumber s) = 0 := toSend_eq_zero hlist hnoway
  refine sendListLaw_joined (f := ⟨takenNumber s, c, .first, noticePayload (newEntry (takenNumber s) c (s.klass c)) false⟩) hs rfl rfl hlist
    ⟨_, List.mem_append_right _ (List.mem_singleton.mpr rfl), rfl, rfl, rfl⟩ (fun e he _ => List.mem_append_left _ he) (fun y hy => ?_) rfl
  obtain hy | hy := List.mem_append.mp hy
  · exact .inl ⟨hy, hfree y hy⟩
  · obtain rfl := List.mem_singleton.mp hy
    exact .inr ⟨rfl, by simp [Budget, hnone, newEntry]⟩

/-- A frame of an entry stands on the list only in the state in which it waits, so an entry whose answer timer runs has none: a NOTICE
frame would be one still to be completed, and an OVERDUE frame waits in EXPIRED (R66, R69). -/
theorem sendListLaw_repeated {e : NoticeEntry} (he : e ∈ s.dispatcher.entries) (htimer : e.answerTimer.isSome)
    (hretry : e.sent ≤ s.session.retryLimit.toNat) {t : State} {payload : List Byte}
    (hlist : t.dispatcher.sendList = s.dispatcher.sendList ++ [{ notice := e.number, cls := e.cls, kind := .again, payload := payload }])
    (hentries : t.dispatcher.entries = updated e.number (fun x => { x with answerTimer := none }) s.dispatcher.entries)
    (htx : t.link.tx = s.link.tx) (hlimit : t.session.retryLimit = s.session.retryLimit) : SendListLaw t := by
  have hstate := notified_of_answerTimer hn he htimer
  obtain ⟨-, hframes, -, hbudget, -⟩ := sendListLaw_iff.mp hs
  have hnone : s.noticesToSend e.number = 0 := (hbudget e he).2.1 htimer
  have hfresh : ∀ g ∈ s.dispatcher.sendList, g.notice ≠ e.number := fun g hg hnumber => by
    obtain ⟨x, hx, hxn, -, hxs⟩ := hframes g hg
    obtain rfl := entry_eq_of_number hn he hx (hxn.trans hnumber)
    have hkind : g.kind ≠ .overdue := fun hkind => by
      rw [hkind, hstate] at hxs
      cases hxs
    have hcount : g ∈ s.dispatcher.sendList.filter fun f => f.notice == x.number && decide (f.kind ≠ .overdue) :=
      List.mem_filter.mpr ⟨hg, by simp [hnumber, hkind]⟩
    have := List.length_pos_of_mem hcount
    rw [noticesToSend_eq, toSend] at hnone
    omega
  have hmine : { e with answerTimer := none } ∈ t.dispatcher.entries := by
    rw [hentries]
    exact mem_updated.mpr (.inl ⟨e, he, rfl, rfl⟩)
  refine sendListLaw_joined hs hlist (noticeUnderWay_congr htx) hfresh ⟨_, hmine, rfl, rfl, hstate⟩ (fun x hx hne => ?_)
    (fun y hy => ?_) hlimit
  · rw [hentries]
    exact mem_updated.mpr (.inr ⟨hx, hne⟩)
  · rw [hentries] at hy
    obtain ⟨x, hx, hxn, rfl⟩ | hy := mem_updated.mp hy
    · obtain rfl := entry_eq_of_number hn he hx hxn
      refine .inr ⟨rfl, ?_⟩
      simp only [hnone]
      exact ⟨by simp, nofun, by simpa using hretry⟩
    · exact .inl hy

/-- An entry in IN-SERVICE has no frame on the list, so its OVERDUE frame is its only one (R66, R79). -/
theorem sendListLaw_expired {e : NoticeEntry} (he : e ∈ s.dispatcher.entries) (htimer : e.serviceTimer.isSome) :
    SendListLaw (expireEffect e s) := by
  have hstate := inService_of_serviceTimer hn he htimer
  obtain ⟨-, -, -, hanswer, -⟩ := entryLaw_of_mem hn he
  obtain ⟨-, hframes, -, hbudget, -⟩ := sendListLaw_iff.mp hs
  have hentries := expireEffect_entries e s
  have hfresh : ∀ g ∈ s.dispatcher.sendList, g.notice ≠ e.number := fun g hg hnumber => by
    obtain ⟨x, hx, hxn, -, hxs⟩ := hframes g hg
    obtain rfl := entry_eq_of_number hn he hx (hxn.trans hnumber)
    rw [hstate] at hxs
    cases hkind : g.kind <;> simp [hkind, NoticeFrameKind.waitsIn] at hxs
  have hmine : { e with state := .expired, serviceTimer := none } ∈ (expireEffect e s).dispatcher.entries := by
    rw [hentries]
    exact mem_updated.mpr (.inl ⟨e, he, rfl, rfl⟩)
  refine sendListLaw_joined (f := ⟨e.number, e.cls, .overdue, overduePayload e.number e.cls (e.claimTime.getD 0)⟩) hs rfl (noticeUnderWay_congr (by simp)) hfresh
    ⟨_, hmine, rfl, rfl, rfl⟩ (fun x hx hne => ?_) (fun y hy => ?_) (by simp)
  · rw [hentries]
    exact mem_updated.mpr (.inr ⟨hx, hne⟩)
  · rw [hentries] at hy
    obtain ⟨x, hx, hxn, rfl⟩ | hy := mem_updated.mp hy
    · obtain rfl := entry_eq_of_number hn he hx hxn
      exact .inr ⟨rfl, hbudget x he⟩
    · exact .inl hy

theorem sendListLaw_openWith {p : SessionParams} (hdown : s.session.up = false) (hlimit : p.retryLimit.toNat ≤ 7) :
    SendListLaw (s.openWith p) := by
  have hentries := entries_of_down hn hdown
  obtain ⟨hlist, hway⟩ := nothing_of_entries_nil hs hentries
  exact sendListLaw_of_empty hentries hlist hway hlimit

end Operations

/-- Every frame under way has lost its entry at teardown (R68, R84). -/
theorem sendListLaw_teardown {s : State} (hs : SendListLaw s) (x : EndCause) (k : RecordKind) (o : Option ClassNo) (n : Option Byte) :
    SendListLaw (s.teardown x k o n) := by
  obtain ⟨-, -, -, -, hlimit⟩ := sendListLaw_iff.mp hs
  refine sendListLaw_of_empty rfl rfl ?_ (by simpa using hlimit)
  rw [noticeUnderWay_of_detach (s := s) (gone := fun _ => true) (by rw [teardown_link]), Option.filter_eq_none_iff]
  simp

/-- What a frame other than a NOTICE with its entry is: no entry waits for its completion (R128). -/
theorem noticeUnderWay_of_other {s : State} {t : Sending} (htx : s.link.tx = some t) (horigin : ∀ n, t.origin ≠ .notice (some n)) :
    s.noticeUnderWay = none := by
  cases horigin' : t.origin with
  | notice n =>
    cases n with
    | none => exact noticeUnderWay_of_notice htx horigin'
    | some n => exact absurd horigin' (horigin n)
  | start | answer _ _ | overdue => simp only [State.noticeUnderWay, htx, horigin']

/-- Every operation of the commands keeps the laws of the notice table and of the notice send list together. -/
theorem kept_noticeLaws : Kept fun _ => NoticeLaws where
  free j a c q b hs := ⟨kept_noticeLaw.free (w := none) j a c q b hs.1, sendListLaw_of_frame hs.2 rfl rfl rfl⟩
  straps b a hs := ⟨kept_noticeLaw.straps b a hs.1, sendListLaw_of_frame hs.2 rfl rfl rfl⟩
  power p h hs := ⟨kept_noticeLaw.power p h hs.1, sendListLaw_of_frame hs.2 rfl rfl rfl⟩
  waitQuiet q n hs h1 h2 := ⟨kept_noticeLaw.waitQuiet q n hs.1 h1 h2, sendListLaw_of_frame hs.2 rfl rfl rfl⟩
  discard hs := ⟨kept_noticeLaw.discard hs.1, sendListLaw_of_frame hs.2 rfl rfl rfl⟩
  enterWindow o hs h := ⟨kept_noticeLaw.enterWindow o hs.1 h, sendListLaw_of_frame hs.2 rfl rfl rfl⟩
  frameFails hs := ⟨kept_noticeLaw.frameFails hs.1, sendListLaw_of_frame hs.2 rfl rfl rfl⟩
  receiveTo r hs h1 h2 h3 := ⟨kept_noticeLaw.receiveTo r hs.1 h1 h2 h3, sendListLaw_of_frame hs.2 rfl rfl rfl⟩
  enqueue {s o} r f hs h := ⟨kept_noticeLaw.enqueue (o := o) r f hs.1 h, sendListLaw_of_frame hs.2 rfl rfl rfl⟩
  sendStart hs h := ⟨kept_noticeLaw.sendStart hs.1 h, sendListLaw_of_none hs.2 (noticeUnderWay_of_idle h) rfl rfl rfl⟩
  sendAnswer hs h h' := ⟨kept_noticeLaw.sendAnswer hs.1 h h', sendListLaw_of_none hs.2 (noticeUnderWay_of_idle h) rfl rfl rfl⟩
  sendNotice hs h hf := ⟨kept_noticeLaw.sendNotice hs.1 h hf, sendListLaw_sendNotice hs.2 h hf⟩
  startSent hs h h' := ⟨kept_noticeLaw.startSent hs.1 h h',
    sendListLaw_of_none hs.2 (noticeUnderWay_of_other h (by simp [h'])) rfl rfl rfl⟩
  answerSent hs h h' := ⟨kept_noticeLaw.answerSent hs.1 h h',
    sendListLaw_of_none hs.2 (noticeUnderWay_of_other h (by simp [h'])) rfl rfl rfl⟩
  noticeSent hs h h' := ⟨kept_noticeLaw.noticeSent hs.1 h h',
    sendListLaw_noticeSent hs.2 (noticeUnderWay_of_notice h h') rfl rfl rfl rfl⟩
  otherSent hs h h' := ⟨kept_noticeLaw.otherSent hs.1 h h', sendListLaw_of_none hs.2
    (noticeUnderWay_of_other h (by rcases h' with h' | h' <;> simp [h'])) rfl rfl rfl⟩
  rawChange i l hs := ⟨kept_noticeLaw.rawChange i l hs.1, sendListLaw_of_frame hs.2 (by simp) (by simp) (by simp)⟩
  qualified hs h := ⟨kept_noticeLaw.qualified hs.1 h, sendListLaw_of_frame hs.2 (by simp) (by simp) (by simp)⟩
  force hs h h' := ⟨kept_noticeLaw.force (w := none) hs.1 h h', sendListLaw_of_frame hs.2 (by simp) (by simp) (by simp)⟩
  steerTo hs h h' h'' := ⟨kept_noticeLaw.steerTo (w := none) hs.1 h h' h'', sendListLaw_of_frame hs.2 (by simp) (by simp) (by simp)⟩
  takeReport hs h := ⟨kept_noticeLaw.takeReport hs.1 h, sendListLaw_of_frame hs.2 (by simp) (by simp) (by simp)⟩
  deadline hs h := ⟨kept_noticeLaw.deadline hs.1 h, sendListLaw_of_frame hs.2 rfl rfl rfl⟩
  hold hs h := ⟨kept_noticeLaw.hold hs.1 h, sendListLaw_of_frame hs.2 rfl rfl rfl⟩
  withSettings x hs h := ⟨kept_noticeLaw.withSettings (w := none) x hs.1 h, sendListLaw_of_frame hs.2 rfl rfl rfl⟩
  setMasks m b hs := ⟨kept_noticeLaw.setMasks (w := none) m b hs.1, sendListLaw_of_frame hs.2 (by simp) (by simp) (by simp)⟩
  alarmOff hs h := ⟨kept_noticeLaw.alarmOff (w := none) hs.1 h, sendListLaw_of_frame hs.2 rfl rfl rfl⟩
  createNotice hs hc := ⟨kept_noticeLaw.createNotice hs.1 hc, sendListLaw_createNotice hs.1 hs.2 hc⟩
  claim hs hup he hstate := ⟨kept_noticeLaw.claim (w := none) hs.1 hup he hstate, sendListLaw_claim hs.2 _⟩
  release hs hup he hstate := ⟨kept_noticeLaw.release (w := none) hs.1 hup he hstate,
    sendListLaw_removed hs.2 (releaseEffect_dispatcher _ _) (by rw [releaseEffect_link]) (by simp)⟩
  returned h hs hup he hstate := ⟨kept_noticeLaw.returned (w := none) h hs.1 hup he hstate,
    sendListLaw_removed hs.2 rfl (by rw [returnEffect_link]) (by simp)⟩
  repeated hs he htimer hretry := ⟨kept_noticeLaw.repeated hs.1 he htimer hretry,
    sendListLaw_repeated hs.1 hs.2 he htimer hretry rfl rfl rfl rfl⟩
  exhausted hs he htimer hretry := ⟨kept_noticeLaw.exhausted hs.1 he htimer hretry, sendListLaw_answerStopped hs.2 rfl rfl rfl rfl⟩
  expired hs he htimer := ⟨kept_noticeLaw.expired hs.1 he htimer, sendListLaw_expired hs.1 hs.2 he htimer⟩
  takeAsk hs h := ⟨kept_noticeLaw.takeAsk (w := none) hs.1 h,
    sendListLaw_of_frame hs.2 (by simp [State.popAsk]) (by simp [State.popAsk]) (by simp [State.popAsk])⟩
  takeWithdrawal hs h := ⟨kept_noticeLaw.takeWithdrawal hs.1 h, sendListLaw_of_frame hs.2 (by simp) (by simp) (by simp)⟩
  guardEnds hs h := ⟨kept_noticeLaw.guardEnds hs.1 h, sendListLaw_of_frame hs.2 rfl rfl rfl⟩
  repair hs h h' h'' := ⟨kept_noticeLaw.repair (w := none) hs.1 h h' h'', sendListLaw_of_frame hs.2 rfl rfl rfl⟩
  openWith hs hdown hcredit hlimit := ⟨kept_noticeLaw.openWith (w := none) hs.1 hdown hcredit hlimit,
    sendListLaw_openWith hs.1 hs.2 hdown hlimit⟩
  teardown x k o n hs h := ⟨kept_noticeLaw.teardown (w := none) x k o n hs.1 h, sendListLaw_teardown hs.2 x k o n⟩
  beginSave hs h := ⟨kept_noticeLaw.beginSave hs.1 h, sendListLaw_of_frame hs.2 rfl rfl rfl⟩
  saved hs h := ⟨kept_noticeLaw.saved hs.1 h, sendListLaw_of_frame hs.2 rfl rfl rfl⟩
  beginSetBoot d hs h := ⟨kept_noticeLaw.beginSetBoot d hs.1 h, sendListLaw_of_frame hs.2 rfl rfl rfl⟩
  bootSet hs h := ⟨kept_noticeLaw.bootSet hs.1 h, sendListLaw_of_frame hs.2 rfl rfl rfl⟩
  load hs h h' h'' := ⟨kept_noticeLaw.load (w := none) hs.1 h h' h'', sendListLaw_of_frame hs.2 (by simp) (by simp) (by simp)⟩

theorem sendListLaw_tick {s : State} (hs : SendListLaw s) : SendListLaw s.tick := by
  obtain ⟨-, h⟩ | ⟨-, -, h⟩ | ⟨-, -, h⟩ := tick_cases s
  all_goals rw [h]
  · exact hs
  · exact sendListLaw_of_frame hs rfl rfl rfl
  · exact sendListLaw_of_frame hs rfl rfl rfl

theorem sendListLaw_beginsReset {s t : State} (ht : BeginsReset s t) : SendListLaw t := by
  obtain ⟨cause, l, p, -, rfl⟩ := ht
  exact sendListLaw_of_empty rfl rfl rfl (show (0 : Byte).toNat ≤ 7 by decide)

/-- Start-up finds the transmitter idle and begins START, which no entry waits for (R127, R162). -/
theorem sendListLaw_startUp {s : State} (hs : ResetLaw s) (hread : s.power.storeRead = true) : SendListLaw s.startUp := by
  obtain ⟨-, -, -, -, hdispatcher, -, hlink, hsession, -⟩ := hs (inReset_of_storeRead hread)
  have hidle : s.link.tx = none := by rw [hlink]; rfl
  have hdispatcher' : s.startUp.dispatcher = s.dispatcher := by
    rw [startUp_eq, State.transmit]
    simp [State.enableReceiver, State.waitQuiet, State.leaveReset, State.journalStartUp, hidle]
  have hway : s.startUp.noticeUnderWay = none := by
    rw [startUp_eq, State.transmit]
    simp [State.enableReceiver, State.waitQuiet, State.leaveReset, State.journalStartUp, hidle, State.noticeUnderWay, State.sendStart,
      State.send]
  have hlimit : s.startUp.session.retryLimit = s.session.retryLimit := by
    simp [State.startUp, State.enableReceiver, State.journalStartUp, State.leaveReset]
  refine sendListLaw_of_empty ?_ ?_ hway ?_
  · rw [hdispatcher', hdispatcher]
    rfl
  · rw [hdispatcher', hdispatcher]
    rfl
  · rw [hlimit, hsession]
    decide

/-- Settles O8: `kept_noticeLaw` keeps an entry and its class in step, `kept_noticeLaws` a frame and its entry; a reset empties the
table, and start-up finds it so. -/
theorem noticeLawKeptByEveryStep : Obligations.NoticeLawKeptByEveryStep := by
  intro s t hreset hs hstep
  constructor
  · obtain ht | ⟨q, ht | ⟨hread, rfl⟩⟩ := kept_noticeLaw.step_cases hs (fun _ => noticeLaw_tick hs) hstep
    · exact ht
    · exact noticeLaw_beginsReset ht
    · exact noticeLaw_startUp (resetLaw_queue hreset q) hread
  · intro hlist
    obtain ht | ⟨q, ht | ⟨hread, rfl⟩⟩ := kept_noticeLaws.step_cases ⟨hs, hlist⟩
      (fun _ => ⟨noticeLaw_tick hs, sendListLaw_tick hlist⟩) hstep
    · exact ht.2
    · exact sendListLaw_beginsReset ht
    · exact sendListLaw_startUp (resetLaw_queue hreset q) hread

end Sys2Proof.Proofs

/-! ## O9: the law of the class records, and ALARM while a class is late -/

namespace Sys2Proof.Proofs

open Sys2Proof Sys2Proof.Machine Sys2Proof.Laws

/-- A class record that is lawful, and late only if the record before it was (R49, R50). -/
def Follows (r r' : ClassRecord) : Prop := ClassLaw r' ∧ (r'.late = true → r.late = true)

section Transitions

variable {r : ClassRecord} {now : Time} {found : List SourceNo}

theorem follows_refl (h : ClassLaw r) : Follows r r := ⟨h, id⟩

theorem follows_enterIdle (r : ClassRecord) : Follows r r.enterIdle :=
  ⟨by simp [ClassLaw, ClassRecord.enterIdle], nofun⟩

theorem follows_enterFresh (hhold : r.holdTimer = none) (hfound : found ≠ []) : Follows r (r.enterFresh now found) := by
  refine ⟨⟨fun hsome => ?_, nofun, by simp [ClassRecord.enterFresh, hhold], by simp [ClassRecord.enterFresh], fun _ => hfound⟩, nofun⟩
  by_cases hcritical : r.settings.critical = true
  · exact ⟨hcritical, rfl⟩
  · simp [ClassRecord.enterFresh, hcritical] at hsome

theorem follows_settleFresh (hhold : r.holdTimer = none) : Follows r (r.settleFresh now found) := by
  unfold ClassRecord.settleFresh
  split
  · exact follows_enterIdle r
  · exact follows_enterFresh hhold ‹_›

/-- A class that has been pending comes back to PENDING with its deadline and its late flag (R34, R37, R40). -/
theorem follows_settleContinued (h : ClassLaw r) (hstate : r.state ≠ .idle) : Follows r (r.settleContinued found) := by
  obtain ⟨hdeadline, hlate, -, hfirst, -⟩ := h
  unfold ClassRecord.settleContinued
  split
  · exact follows_enterIdle r
  · exact ⟨⟨fun hsome => ⟨(hdeadline hsome).1, rfl⟩, fun hlate' => ⟨(hlate hlate').1, rfl⟩, by simp [ClassRecord.enterContinued],
      by simpa [ClassRecord.enterContinued, hfirst] using hstate, fun _ => ‹_›⟩, id⟩

theorem holdTimer_eq_none_of_law (h : ClassLaw r) (hstate : r.state ≠ .held) : r.holdTimer = none := by
  obtain ⟨-, -, hhold, -⟩ := h
  exact holdTimer_eq_none_of_ne_held hhold.mp hstate

/-- In PENDING the reported set is replaced by another that is not empty (R36). -/
theorem follows_reported (h : ClassLaw r) (hfound : found ≠ []) : Follows r { r with reported := found } := by
  obtain ⟨hdeadline, hlate, hhold, hfirst, -⟩ := h
  exact ⟨⟨hdeadline, hlate, hhold, hfirst, fun _ => hfound⟩, id⟩

theorem follows_reevaluate (h : ClassLaw r) : Follows r (r.reevaluate now found) := by
  unfold ClassRecord.reevaluate
  split
  next hidle => exact follows_settleFresh (holdTimer_eq_none_of_law h (by simp [hidle]))
  next hpending =>
    split
    · exact follows_enterIdle r
    · exact follows_reported h ‹_›
  all_goals exact follows_refl h

theorem insertSource_ne_nil (i : SourceNo) (l : List SourceNo) : insertSource i l ≠ [] :=
  List.ne_nil_of_mem (List.mem_filter.mpr ⟨mem_allSources i, by simp⟩)

theorem follows_reportOn (h : ClassLaw r) (i : SourceNo) : Follows r (r.reportOn now i) := by
  unfold ClassRecord.reportOn
  split
  next hidle => exact follows_enterFresh (holdTimer_eq_none_of_law h (by simp [hidle])) (insertSource_ne_nil _ _)
  next => exact follows_reported h (insertSource_ne_nil _ _)
  all_goals exact follows_refl h

theorem follows_reportOff (h : ClassLaw r) (i : SourceNo) : Follows r (r.reportOff i found) := by
  unfold ClassRecord.reportOff
  split
  next hidle =>
    obtain ⟨hdeadline, hlate, hhold, hfirst, -⟩ := h
    exact ⟨⟨hdeadline, hlate, hhold, hfirst, fun hpending => by simp [hidle] at hpending⟩, id⟩
  next =>
    split
    · exact follows_enterIdle r
    · exact follows_reported h ‹_›
  all_goals exact follows_refl h

theorem follows_tornDown (h : ClassLaw r) : Follows r (r.tornDown now found) := by
  unfold ClassRecord.tornDown
  split
  case h_1 hstate | h_2 hstate => exact follows_settleContinued h (by simp [hstate])
  case h_3 hstate | h_4 hstate => exact follows_settleFresh (holdTimer_eq_none_of_law h (by simp [hstate]))
  case h_5 | h_6 => exact follows_refl h

theorem follows_loaded (r : ClassRecord) (x : ClassSettings) : Follows r (r.loaded x now found) := by
  obtain ⟨hlaw, hlate⟩ := follows_settleFresh (now := now) (found := found) (r := ({ r with settings := x }).enterIdle) rfl
  exact ⟨hlaw, fun h => nomatch hlate h⟩

theorem follows_returned (h : ClassLaw r) (hstate : r.state = .notified) (hold : Half) : Follows r (r.returned hold now found) := by
  unfold ClassRecord.returned
  split
  · exact follows_settleContinued h (by simp [hstate])
  · obtain ⟨hdeadline, hlate, -, hfirst, -⟩ := h
    exact ⟨⟨fun hsome => ⟨(hdeadline hsome).1, rfl⟩, fun hlate' => ⟨(hlate hlate').1, rfl⟩, by simp, by simpa [hstate] using hfirst,
      nofun⟩, id⟩

/-- New settings start a deadline only in PENDING and HELD, and stop it with the critical setting (R54). -/
theorem follows_withSettings (h : ClassLaw r) (x : ClassSettings) :
    Follows r (r.withSettings x now) := by
  obtain ⟨hdeadline, hlate, hhold, hfirst, hpending⟩ := h
  unfold ClassRecord.withSettings
  split
  · rename_i hstarts
    rw [Bool.and_eq_true, Bool.not_eq_true'] at hstarts
    obtain ⟨hx, hr⟩ := hstarts
    split
    · rename_i hstate
      have hawaits : r.state.awaits = true := by rcases hstate with hstate | hstate <;> rw [hstate] <;> rfl
      exact ⟨⟨fun _ => ⟨hx, hawaits⟩, nofun, hhold, hfirst, hpending⟩, nofun⟩
    · exact ⟨⟨fun hsome => ⟨hx, (hdeadline hsome).2⟩, fun hlate' => ⟨hx, (hlate hlate').2⟩, hhold, hfirst, hpending⟩, id⟩
  · rename_i hkeeps
    split
    · exact ⟨⟨nofun, nofun, hhold, hfirst, hpending⟩, nofun⟩
    · rename_i hstops
      have hcritical : r.settings.critical = true → x.critical = true := fun hr => by simpa [hr] using hstops
      exact ⟨⟨fun hsome => ⟨hcritical (hdeadline hsome).1, (hdeadline hsome).2⟩,
        fun hlate' => ⟨hcritical (hlate hlate').1, (hlate hlate').2⟩, hhold, hfirst, hpending⟩, id⟩

theorem follows_masked (h : ClassLaw r) (b : Bool) : Follows r { r with settings := { r.settings with masked := b } } := ⟨h, id⟩

/-- The arbiter takes a PENDING class to NOTIFIED, where its deadline runs on (R45, R64). -/
theorem follows_notified (h : ClassLaw r) (hstate : r.state = .pending) : Follows r { r with state := .notified } := by
  obtain ⟨hdeadline, hlate, hhold, hfirst, -⟩ := h
  rw [hstate] at hdeadline hlate hhold hfirst
  exact ⟨⟨fun hsome => ⟨(hdeadline hsome).1, rfl⟩, fun hlate' => ⟨(hlate hlate').1, rfl⟩, by simpa using hhold, by simpa using hfirst,
    nofun⟩, id⟩

theorem follows_inService (h : ClassLaw r) (hstate : r.state = .notified) :
    Follows r { r with state := .inService, deadlineTimer := none, late := false } := by
  obtain ⟨-, -, hhold, hfirst, -⟩ := h
  rw [hstate] at hhold hfirst
  exact ⟨⟨nofun, nofun, by simpa using hhold, by simpa using hfirst, nofun⟩, nofun⟩

theorem follows_expired (h : ClassLaw r) (hstate : r.state = .inService) : Follows r { r with state := .expired } := by
  obtain ⟨hdeadline, hlate, hhold, hfirst, -⟩ := h
  rw [hstate] at hdeadline hlate hhold hfirst
  exact ⟨⟨fun hsome => (nomatch (hdeadline hsome).2), fun hlate' => (nomatch (hlate hlate').2), by simpa using hhold,
    by simpa using hfirst, nofun⟩, id⟩

/-- At its deadline a class is late, and ALARM is asserted with it (R47). -/
theorem classLaw_late (h : ClassLaw r) (htimer : r.deadlineTimer.isSome) : ClassLaw { r with deadlineTimer := none, late := true } := by
  obtain ⟨hdeadline, -, hhold, hfirst, hpending⟩ := h
  exact ⟨nofun, fun _ => hdeadline htimer, hhold, hfirst, hpending⟩

end Transitions

theorem classesLaw_of_follows {s t : State} (hs : ClassesLaw s) (halarm : t.alarm = s.alarm)
    (hclass : ∀ c, Follows (s.klass c) (t.klass c)) : ClassesLaw t := by
  obtain ⟨-, hlate⟩ := hs
  exact ⟨fun c => (hclass c).1, fun c hc => halarm ▸ hlate c ((hclass c).2 hc)⟩

theorem classesLaw_of_same {s t : State} (hs : ClassesLaw s) (halarm : t.alarm = s.alarm) (hclasses : t.classes = s.classes) :
    ClassesLaw t :=
  classesLaw_of_follows hs halarm fun c => by
    rw [klass_congr hclasses]
    exact follows_refl (hs.1 c)

/-- One class changes. -/
theorem classesLaw_of_one {s t : State} {c : ClassNo} {r : ClassRecord} (hs : ClassesLaw s) (halarm : t.alarm = s.alarm)
    (hclass : ∀ d, t.klass d = if d = c then r else s.klass d) (h : Follows (s.klass c) r) : ClassesLaw t :=
  classesLaw_of_follows hs halarm fun d => by
    rw [hclass]
    split
    · subst_vars
      exact h
    · exact follows_refl (hs.1 d)

/-- The law of the notice table with that of the class records: an entry's class is in the state of the same name. -/
def ClassLaws (s : State) : Prop := NoticeLaw s ∧ ClassesLaw s

/-- Every operation of the commands keeps the law of the class records, next to that of the notice table. -/
theorem kept_classLaws : Kept fun _ => ClassLaws where
  free j a c q b hs := ⟨kept_noticeLaw.free (w := none) j a c q b hs.1, classesLaw_of_same hs.2 rfl rfl⟩
  straps b a hs := ⟨kept_noticeLaw.straps b a hs.1, classesLaw_of_same hs.2 rfl rfl⟩
  power p h hs := ⟨kept_noticeLaw.power p h hs.1, classesLaw_of_same hs.2 rfl rfl⟩
  waitQuiet q n hs h1 h2 := ⟨kept_noticeLaw.waitQuiet q n hs.1 h1 h2, classesLaw_of_same hs.2 rfl rfl⟩
  discard hs := ⟨kept_noticeLaw.discard hs.1, classesLaw_of_same hs.2 rfl rfl⟩
  enterWindow o hs h := ⟨kept_noticeLaw.enterWindow o hs.1 h, classesLaw_of_same hs.2 rfl rfl⟩
  frameFails hs := ⟨kept_noticeLaw.frameFails hs.1, classesLaw_of_same hs.2 rfl rfl⟩
  receiveTo r hs h1 h2 h3 := ⟨kept_noticeLaw.receiveTo r hs.1 h1 h2 h3, classesLaw_of_same hs.2 rfl rfl⟩
  enqueue {s o} r f hs h := ⟨kept_noticeLaw.enqueue (o := o) r f hs.1 h, classesLaw_of_same hs.2 rfl rfl⟩
  sendStart hs h := ⟨kept_noticeLaw.sendStart hs.1 h, classesLaw_of_same hs.2 rfl rfl⟩
  sendAnswer hs h h' := ⟨kept_noticeLaw.sendAnswer hs.1 h h', classesLaw_of_same hs.2 rfl rfl⟩
  sendNotice hs h hf := ⟨kept_noticeLaw.sendNotice hs.1 h hf, classesLaw_of_same hs.2 rfl rfl⟩
  startSent hs h h' := ⟨kept_noticeLaw.startSent hs.1 h h', classesLaw_of_same hs.2 rfl rfl⟩
  answerSent hs h h' := ⟨kept_noticeLaw.answerSent hs.1 h h', classesLaw_of_same hs.2 rfl rfl⟩
  noticeSent hs h h' := ⟨kept_noticeLaw.noticeSent hs.1 h h', classesLaw_of_same hs.2 rfl rfl⟩
  otherSent hs h h' := ⟨kept_noticeLaw.otherSent hs.1 h h', classesLaw_of_same hs.2 rfl rfl⟩
  rawChange i l hs := ⟨kept_noticeLaw.rawChange i l hs.1, classesLaw_of_same hs.2 (by simp) (by simp)⟩
  qualified hs h := ⟨kept_noticeLaw.qualified hs.1 h, classesLaw_of_same hs.2 (by simp) (by simp)⟩
  force hs h h' := ⟨kept_noticeLaw.force (w := none) hs.1 h h', classesLaw_of_same hs.2 (by simp) (by simp)⟩
  steerTo hs h h' h'' := ⟨kept_noticeLaw.steerTo (w := none) hs.1 h h' h'', classesLaw_of_follows hs.2 (by simp) fun c => by
    rw [steerTo_klass]
    split
    · exact follows_reevaluate (hs.2.1 c)
    · exact follows_refl (hs.2.1 c)⟩
  takeReport {s r} hs h := ⟨kept_noticeLaw.takeReport hs.1 h,
    classesLaw_of_one hs.2 (by simp) (fun d => (setKlass_klass _ r.cls d _).trans rfl) (by
      split
      · exact follows_reportOn (hs.2.1 r.cls) _
      · exact follows_reportOff (hs.2.1 r.cls) _)⟩
  deadline {s c} hs h := ⟨kept_noticeLaw.deadline hs.1 h, ⟨fun d => by
    have hclass : ({ s.setKlass c { s.klass c with deadlineTimer := none, late := true } with alarm := true } : State).klass d
        = if d = c then { s.klass c with deadlineTimer := none, late := true } else s.klass d := setKlass_klass s c d _
    rw [hclass]
    split
    · exact classLaw_late (hs.2.1 c) h
    · exact hs.2.1 d, fun _ _ => rfl⟩⟩
  hold {s c} hs h := ⟨kept_noticeLaw.hold hs.1 h, classesLaw_of_one hs.2 rfl (fun d => setKlass_klass s c d _)
    (follows_settleContinued (hs.2.1 c) (by simp [holdLaw_klass hs.1 c h]))⟩
  withSettings {_ s c} x hs h := ⟨kept_noticeLaw.withSettings (w := none) x hs.1 h,
    classesLaw_of_one hs.2 rfl (fun d => setKlass_klass s c d _) (follows_withSettings (hs.2.1 c) x)⟩
  setMasks {_ s} m b hs := ⟨kept_noticeLaw.setMasks (w := none) m b hs.1, classesLaw_of_follows hs.2 (by simp) fun c => by
    have hclass : (s.setMasks m b).klass c
        = if m.getLsbD c.val then { s.klass c with settings := { (s.klass c).settings with masked := b } } else s.klass c :=
      klass_ofFn s _ c
    rw [hclass]
    split
    · exact follows_masked (hs.2.1 c) b
    · exact follows_refl (hs.2.1 c)⟩
  alarmOff hs h := ⟨kept_noticeLaw.alarmOff (w := none) hs.1 h, ⟨hs.2.1, fun c hc => absurd hc (Bool.eq_false_iff.mp (h c))⟩⟩
  createNotice {s c} hs hc := ⟨kept_noticeLaw.createNotice hs.1 hc,
    classesLaw_of_one hs.2 (by simp) (createNotice_klass s c) (follows_notified (hs.2.1 c) (pending_of_eligible hc))⟩
  claim {_ s e} hs hup he hstate := ⟨kept_noticeLaw.claim (w := none) hs.1 hup he hstate,
    classesLaw_of_one hs.2 (by simp) (claimEffect_klass e s)
      (follows_inService (hs.2.1 e.cls) (by rw [state_of_entry hs.1 he, hstate]; rfl))⟩
  release {_ s e} hs hup he hstate := ⟨kept_noticeLaw.release (w := none) hs.1 hup he hstate,
    classesLaw_of_one hs.2 (by simp) (releaseEffect_klass e s) (follows_settleFresh (holdTimer_of_entry hs.1 he))⟩
  returned {_ s e} h hs hup he hstate := ⟨kept_noticeLaw.returned (w := none) h hs.1 hup he hstate,
    classesLaw_of_one hs.2 (by simp) (returnEffect_klass h e s)
      (follows_returned (hs.2.1 e.cls) (by rw [state_of_entry hs.1 he, hstate]; rfl) h)⟩
  repeated hs he htimer hretry := ⟨kept_noticeLaw.repeated hs.1 he htimer hretry, classesLaw_of_same hs.2 rfl rfl⟩
  exhausted hs he htimer hretry := ⟨kept_noticeLaw.exhausted hs.1 he htimer hretry, classesLaw_of_same hs.2 rfl rfl⟩
  expired {s e} hs he htimer := ⟨kept_noticeLaw.expired hs.1 he htimer,
    classesLaw_of_one hs.2 (by simp) (expireEffect_klass e s)
      (follows_expired (hs.2.1 e.cls) (by rw [state_of_entry hs.1 he, inService_of_serviceTimer hs.1 he htimer]; rfl))⟩
  takeAsk hs h := ⟨kept_noticeLaw.takeAsk (w := none) hs.1 h, classesLaw_of_same hs.2 (by simp [State.popAsk]) (by simp [State.popAsk])⟩
  takeWithdrawal hs h := ⟨kept_noticeLaw.takeWithdrawal hs.1 h, classesLaw_of_same hs.2 (by simp) (by simp)⟩
  guardEnds hs h := ⟨kept_noticeLaw.guardEnds hs.1 h, classesLaw_of_same hs.2 rfl rfl⟩
  repair hs h h' h'' := ⟨kept_noticeLaw.repair (w := none) hs.1 h h' h'', classesLaw_of_same hs.2 rfl rfl⟩
  openWith hs hdown hcredit hlimit := ⟨kept_noticeLaw.openWith (w := none) hs.1 hdown hcredit hlimit,
    classesLaw_of_same hs.2 rfl rfl⟩
  teardown {_ s} x k o n hs h := ⟨kept_noticeLaw.teardown (w := none) x k o n hs.1 h,
    classesLaw_of_follows hs.2 (by simp) fun c => by
      rw [teardown_klass]
      exact follows_tornDown (hs.2.1 c)⟩
  beginSave hs h := ⟨kept_noticeLaw.beginSave hs.1 h, classesLaw_of_same hs.2 rfl rfl⟩
  saved hs h := ⟨kept_noticeLaw.saved hs.1 h, classesLaw_of_same hs.2 rfl rfl⟩
  beginSetBoot d hs h := ⟨kept_noticeLaw.beginSetBoot d hs.1 h, classesLaw_of_same hs.2 rfl rfl⟩
  bootSet hs h := ⟨kept_noticeLaw.bootSet hs.1 h, classesLaw_of_same hs.2 rfl rfl⟩
  load {_ s n g p} hs h h' h'' := ⟨kept_noticeLaw.load (w := none) hs.1 h h' h'', classesLaw_of_follows hs.2 (by simp) fun c => by
    rw [loadEffect_klass]
    exact follows_loaded _ _⟩

/-- No class is late, and every record is lawful: then ALARM does not matter. -/
theorem classesLaw_of_fresh {s : State} (h : ∀ c, ClassLaw (s.klass c) ∧ (s.klass c).late = false) : ClassesLaw s :=
  ⟨fun c => (h c).1, fun c hc => absurd hc (Bool.eq_false_iff.mp (h c).2)⟩

theorem classesLaw_beginsReset {s t : State} (ht : BeginsReset s t) : ClassesLaw t := by
  obtain ⟨cause, l, p, -, rfl⟩ := ht
  refine classesLaw_of_fresh fun c => ?_
  have hclass : (({ s with link := l }.beginReset cause).klass c) = resetClass (s.klass c).settings := by
    simp [State.beginReset, State.klass]
  exact hclass ▸ ⟨by simp [ClassLaw, resetClass], rfl⟩

theorem classesLaw_startUp (s : State) : ClassesLaw s.startUp := by
  refine classesLaw_of_fresh fun c => ?_
  obtain ⟨found, hclass⟩ := startUp_klass s c
  rw [hclass]
  obtain ⟨hlaw, hlate⟩ := follows_settleFresh (now := 0) (found := found)
    (r := ({ s.klass c with settings := s.store.bootChoice.2.settings[c] }).enterIdle) rfl
  exact ⟨hlaw, Bool.eq_false_iff.mpr fun h => nomatch hlate h⟩

/-- Settles O9: `kept_classLaws` follows each class through its states; only a deadline makes a class late, and it asserts ALARM. -/
theorem classesLawKeptByEveryStep : Obligations.ClassesLawKeptByEveryStep := by
  intro s t hnotice hs hstep
  have htick : ClassesLaw s.tick := by
    obtain ⟨-, h⟩ | ⟨-, -, h⟩ | ⟨-, -, h⟩ := tick_cases s
    all_goals rw [h]
    · exact hs
    · exact classesLaw_of_same hs rfl rfl
    · exact classesLaw_of_same hs rfl rfl
  obtain ht | ⟨q, ht | ⟨-, rfl⟩⟩ := kept_classLaws.step_cases ⟨hnotice, hs⟩ (fun _ => ⟨noticeLaw_tick hnotice, htick⟩) hstep
  · exact ht.2
  · exact classesLaw_beginsReset ht
  · exact classesLaw_startUp _

end Sys2Proof.Proofs

/-! ## O10: grant lines and what the grants mean -/

namespace Sys2Proof.Proofs

open Sys2Proof Sys2Proof.Machine Sys2Proof.Laws

/-! ### The law of one line -/

section Lines

variable {r : LineRecord}

theorem holds_iff : r.holds = true ↔ r.state = .granted ∨ (r.state = .guarding ∧ r.waiting = true) := by
  simp [LineRecord.holds]

theorem holds_eq_false_iff_notice (h : LineLaw r) : r.holds = false ↔ r.notice = none := by
  obtain ⟨-, hnotice, -⟩ := h
  rw [← Bool.not_eq_true, ← hnotice, Option.not_isSome_iff_eq_none]

/-- Only a line that is GRANTED or waiting has something to give up (R92, R94). -/
theorem finish_of_not_holds (h : r.holds = false) (now : Time) : r.finish now = r := by
  rw [← Bool.not_eq_true, holds_iff, not_or] at h
  rw [LineRecord.finish, if_neg h.1, if_neg h.2]

/-- A line that gives up its grant carries no notice (R92). -/
theorem finish_notice (h : LineLaw r) (now : Time) : (r.finish now).notice = none := by
  by_cases hholds : r.holds = true
  · obtain hgranted | ⟨hguarding, hwaiting⟩ := holds_iff.mp hholds
    · rw [LineRecord.finish, if_pos hgranted, LineRecord.endGrant]
      split <;> rfl
    · rw [LineRecord.finish, if_neg (by simp [hguarding]), if_pos ⟨hguarding, hwaiting⟩, LineRecord.endWait]
  · rw [Bool.not_eq_true] at hholds
    rw [finish_of_not_holds hholds, ← holds_eq_false_iff_notice h]
    exact hholds

theorem lineLaw_grant (h : LineLaw r) {i : SourceNo} (hsource : r.pairing.source = some i) (n : Byte) : LineLaw (r.grant n) := by
  obtain ⟨hwaiting, hnotice, htimer, hunpaired, hpaired⟩ := h
  unfold LineRecord.grant
  split
  next hready =>
    exact ⟨fun hw => by simp [hready] at hwaiting; simp [hwaiting] at hw, by simp [LineRecord.holds], by simpa [hready] using htimer,
      nofun, by simp [hsource]⟩
  next hguarding => exact ⟨fun _ => hguarding, by simp [LineRecord.holds, hguarding], htimer, by simp [hguarding], by simp [hsource]⟩
  all_goals exact ⟨hwaiting, hnotice, htimer, hunpaired, hpaired⟩

theorem lineLaw_finish (h : LineLaw r) (now : Time) : LineLaw (r.finish now) := by
  obtain ⟨hwaiting, hnotice, htimer, hunpaired, hpaired⟩ := h
  unfold LineRecord.finish
  split
  next hgranted =>
    have hsource := hpaired (.inr (holds_iff.mpr (.inl hgranted)))
    have hidle : r.waiting = false := by simpa [hgranted] using hwaiting
    have hstill : r.guardTimer = none := by simpa [hgranted] using htimer
    unfold LineRecord.endGrant
    split
    · exact ⟨by simp [hidle], by simp [LineRecord.holds], by simp [hstill], nofun, fun _ => hsource⟩
    · exact ⟨nofun, by simp [LineRecord.holds], by simp, nofun, by simp [LineRecord.holds]⟩
  · split
    next hwaits =>
      exact ⟨nofun, by simp [LineRecord.endWait, LineRecord.holds, hwaits.1], htimer, by simp [LineRecord.endWait, hwaits.1],
        by simp [LineRecord.endWait, LineRecord.holds, hwaits.1]⟩
    next => exact ⟨hwaiting, hnotice, htimer, hunpaired, hpaired⟩

theorem lineLaw_guardEnds (h : LineLaw r) (hguard : r.guardTimer.isSome) : LineLaw r.guardEnds := by
  obtain ⟨-, hnotice, htimer, -, hpaired⟩ := h
  have hguarding := htimer.mp hguard
  unfold LineRecord.guardEnds
  split
  next hwaits =>
    have hholds : r.holds = true := holds_iff.mpr (.inr ⟨hguarding, hwaits⟩)
    have hsource := hpaired (.inr hholds)
    exact ⟨nofun, by simpa [LineRecord.holds, hholds] using hnotice.mpr hholds, by simp, nofun, fun _ => hsource⟩
  next hfree =>
    have hnone : r.notice = none := by simpa [LineRecord.holds, hguarding, hfree] using hnotice
    split
    · exact ⟨by simp [hfree], by simp [hnone, LineRecord.holds], by simp, nofun, fun _ => ‹_›⟩
    · exact ⟨by simp [hfree], by simp [hnone, LineRecord.holds], by simp, fun _ => Option.not_isSome_iff_eq_none.mp ‹_›,
        by simp [LineRecord.holds]⟩

theorem repair_holds (h : r.holds = false) (p : Pairing) : (r.repair p).holds = false := by
  rw [← Bool.not_eq_true, holds_iff, not_or] at h
  rw [← Bool.not_eq_true, holds_iff]
  unfold LineRecord.repair
  split
  · exact not_or.mpr h
  · split <;> simp

theorem repair_notice (p : Pairing) : (r.repair p).notice = r.notice := by
  unfold LineRecord.repair
  split <;> rfl

theorem lineLaw_repair (h : LineLaw r) (hfree : r.holds = false) (p : Pairing) : LineLaw (r.repair p) := by
  have hholds := repair_holds hfree p
  have hnone := (holds_eq_false_iff_notice h).mp hfree
  obtain ⟨hwaiting, -, htimer, -, -⟩ := h
  refine ⟨?_, by simp [hholds, repair_notice, hnone], ?_, ?_, ?_⟩
  all_goals
    unfold LineRecord.repair
    split
  · exact hwaiting
  · intro hw
    exact absurd (hwaiting hw) ‹_›
  · exact htimer
  · rename_i hstate
    rw [htimer]
    split <;> simp [hstate]
  · rename_i hstate
    simp [hstate]
  · split <;> simp_all
  · rename_i hstate
    rintro (hready | hheld)
    · simp [hstate] at hready
    · rw [← Bool.not_eq_true, holds_iff, not_or] at hfree
      exact absurd (holds_iff.mp hheld) (not_or.mpr hfree)
  · split <;> simp_all [LineRecord.holds]

theorem lineLaw_fresh (p : Pairing) : LineLaw (freshLine p) := by
  unfold freshLine
  split
  · exact ⟨nofun, by simp [LineRecord.holds], by simp, nofun, fun _ => ‹_›⟩
  · exact ⟨nofun, by simp [LineRecord.holds], by simp, fun _ => Option.not_isSome_iff_eq_none.mp ‹_›, by simp [LineRecord.holds]⟩

theorem freshLine_notice (p : Pairing) : (freshLine p).notice = none := rfl

theorem freshLine_holds (p : Pairing) : (freshLine p).holds = false := by
  unfold freshLine
  split <;> simp [LineRecord.holds]

end Lines

/-! ### The law of all lines -/

theorem linesLaw_of_same {s t : State} (hs : LinesLaw s) (hlines : t.lines = s.lines) : LinesLaw t := fun g =>
  line_congr hlines g ▸ hs g

theorem linesLaw_setLine {s : State} {g : LineNo} {r : LineRecord} (hs : LinesLaw s) (hr : LineLaw r) : LinesLaw (s.setLine g r) :=
  fun h => by
    rw [setLine_line]
    split
    · exact hr
    · exact hs h

theorem linesLaw_takeAsk {s : State} (hs : LinesLaw s) (a : GrantAsk) : LinesLaw (s.takeAsk a) := fun g =>
  takeAsk_line_keeps (P := fun _ => LineLaw) a hs (fun _ n _ _ _ hsource h => lineLaw_grant h hsource n)
    (fun _ _ _ _ _ h => lineLaw_finish h _) g

theorem linesLaw_takeAsks {s : State} (hs : LinesLaw s) : LinesLaw s.takeAsks :=
  takeAsks_keeps_of_pop (P := LinesLaw) (fun s a _ hs _ => linesLaw_takeAsk (s := s.popAsk) hs a) hs

theorem linesLaw_teardown {s : State} (hs : LinesLaw s) (x : EndCause) (k : RecordKind) (o : Option ClassNo) (n : Option Byte) :
    LinesLaw (s.teardown x k o n) := by
  have hended : LinesLaw s.endGrants := by
    unfold State.endGrants
    exact linesLaw_takeAsks (linesLaw_of_same hs rfl)
  exact linesLaw_of_same hended (teardown_lines s x k o n)

theorem linesLaw_takeWithdrawal {s : State} (hs : LinesLaw s) (i : SourceNo) : LinesLaw (s.takeWithdrawal i) := fun g => by
  obtain h | ⟨-, h⟩ := takeWithdrawal_line s i g
  · exact h ▸ hs g
  · exact h ▸ lineLaw_finish (hs g) _

theorem linesLaw_of_fresh {s : State} (h : ∀ g, ∃ p, s.line g = freshLine p) : LinesLaw s := fun g => by
  obtain ⟨p, hg⟩ := h g
  exact hg ▸ lineLaw_fresh p

theorem loadTables_line (s : State) (p : Profile) (g : LineNo) : (s.loadTables p).line g = freshLine p.pairings[g] := by
  simp [State.loadTables, State.line]

theorem loadEffect_line (s : State) (p : Profile) (g : LineNo) : (loadEffect p s).line g = freshLine p.pairings[g] := by
  have hlines : (loadEffect p s).lines = (s.loadTables p).lines := by simp [loadEffect]
  rw [line_congr hlines, loadTables_line]

/-- Every operation of the commands keeps the law of the grant lines. -/
theorem kept_linesLaw : Kept fun _ => LinesLaw where
  free _ _ _ _ _ hs := linesLaw_of_same hs rfl
  straps _ _ hs := linesLaw_of_same hs rfl
  power _ _ hs := linesLaw_of_same hs rfl
  waitQuiet _ _ hs _ _ := linesLaw_of_same hs rfl
  discard hs := linesLaw_of_same hs rfl
  enterWindow _ hs _ := linesLaw_of_same hs rfl
  frameFails hs := linesLaw_of_same hs rfl
  receiveTo _ hs _ _ _ := linesLaw_of_same hs rfl
  enqueue _ _ hs _ := linesLaw_of_same hs rfl
  sendStart hs _ := linesLaw_of_same hs rfl
  sendAnswer hs _ _ := linesLaw_of_same hs rfl
  sendNotice hs _ _ := linesLaw_of_same hs rfl
  startSent hs _ _ := linesLaw_of_same hs rfl
  answerSent hs _ _ := linesLaw_of_same hs rfl
  noticeSent hs _ _ := linesLaw_of_same hs rfl
  otherSent hs _ _ := linesLaw_of_same hs rfl
  rawChange _ _ hs := linesLaw_of_same hs (by simp)
  qualified hs _ := linesLaw_of_same hs (by simp)
  force hs _ _ := linesLaw_of_same hs (by simp)
  steerTo hs _ _ _ := linesLaw_of_same hs (by simp)
  takeReport hs _ := linesLaw_of_same hs (by simp)
  deadline hs _ := linesLaw_of_same hs rfl
  hold hs _ := linesLaw_of_same hs rfl
  withSettings _ hs _ := linesLaw_of_same hs rfl
  setMasks _ _ hs := linesLaw_of_same hs (by simp)
  alarmOff hs _ := linesLaw_of_same hs rfl
  createNotice hs _ := linesLaw_of_same hs (by simp)
  claim hs _ _ _ := linesLaw_of_same hs (by simp)
  release hs _ _ _ := linesLaw_of_same hs (by simp)
  returned _ hs _ _ _ := linesLaw_of_same hs (by simp)
  repeated hs _ _ _ := linesLaw_of_same hs rfl
  exhausted hs _ _ _ := linesLaw_of_same hs rfl
  expired hs _ _ := linesLaw_of_same hs (by simp)
  takeAsk {_ s a _} hs _ := linesLaw_takeAsk (s := s.popAsk) hs a
  takeWithdrawal hs _ := by
    refine linesLaw_takeWithdrawal ?_ _
    exact linesLaw_of_same hs rfl
  guardEnds {s g} hs hguard := linesLaw_setLine hs (lineLaw_guardEnds (hs g) hguard)
  repair {_ s g p} hs _ hfree _ := linesLaw_setLine hs (lineLaw_repair (hs g) hfree p)
  openWith hs _ _ _ := linesLaw_of_same hs (by simp)
  teardown _ _ _ _ hs _ := linesLaw_teardown hs _ _ _ _
  beginSave hs _ := linesLaw_of_same hs rfl
  saved hs _ := linesLaw_of_same hs rfl
  beginSetBoot _ hs _ := linesLaw_of_same hs rfl
  bootSet hs _ := linesLaw_of_same hs rfl
  load {_ s _ _ p} _ _ _ _ := linesLaw_of_fresh fun g => ⟨_, loadEffect_line s p g⟩

theorem beginsReset_line {s t : State} (ht : BeginsReset s t) (g : LineNo) : t.line g = freshLine (s.line g).pairing := by
  obtain ⟨cause, l, p, -, rfl⟩ := ht
  simp [State.beginReset, State.line, LineRecord.inReset]

theorem startUp_line (s : State) (g : LineNo) : s.startUp.line g = freshLine s.store.bootChoice.2.pairings[g] := by
  have hlines : s.startUp.lines = (({ s.leaveReset with
      store := { s.leaveReset.store with bootOutcome := s.store.bootChoice.1 } } : State).loadTables s.store.bootChoice.2).lines := by
    rw [startUp_eq]
    simp [State.enableReceiver, State.journalStartUp]
  rw [line_congr hlines, loadTables_line]

theorem linesLaw_step {s t : State} (hs : LinesLaw s) (hstep : step s = .next t) : LinesLaw t := by
  have htick : LinesLaw s.tick := by
    unfold State.tick
    split
    · exact hs
    · exact linesLaw_of_same hs rfl
  obtain ht | ⟨q, ht | ⟨-, rfl⟩⟩ := kept_linesLaw.step_cases hs (fun _ => htick) hstep
  · exact ht
  · exact linesLaw_of_fresh fun g => ⟨_, beginsReset_line ht g⟩
  · exact linesLaw_of_fresh fun g => ⟨_, startUp_line _ g⟩

end Sys2Proof.Proofs

namespace Sys2Proof.Proofs

open Sys2Proof Sys2Proof.Machine Sys2Proof.Laws

/-- Two laws that the operations keep, they keep together. -/
theorem Kept.and {P Q : Option Order → State → Prop} (hP : Kept P) (hQ : Kept Q) : Kept fun w s => P w s ∧ Q w s where
  free j a c q b hs := ⟨hP.free j a c q b hs.1, hQ.free j a c q b hs.2⟩
  straps b a hs := ⟨hP.straps b a hs.1, hQ.straps b a hs.2⟩
  power p h hs := ⟨hP.power p h hs.1, hQ.power p h hs.2⟩
  waitQuiet q n hs h h' := ⟨hP.waitQuiet q n hs.1 h h', hQ.waitQuiet q n hs.2 h h'⟩
  discard hs := ⟨hP.discard hs.1, hQ.discard hs.2⟩
  enterWindow o hs h := ⟨hP.enterWindow o hs.1 h, hQ.enterWindow o hs.2 h⟩
  frameFails hs := ⟨hP.frameFails hs.1, hQ.frameFails hs.2⟩
  receiveTo r hs h h' h'' := ⟨hP.receiveTo r hs.1 h h' h'', hQ.receiveTo r hs.2 h h' h''⟩
  enqueue r f hs h := ⟨hP.enqueue r f hs.1 h, hQ.enqueue r f hs.2 h⟩
  sendStart hs h := ⟨hP.sendStart hs.1 h, hQ.sendStart hs.2 h⟩
  sendAnswer hs h h' := ⟨hP.sendAnswer hs.1 h h', hQ.sendAnswer hs.2 h h'⟩
  sendNotice hs h hf := ⟨hP.sendNotice hs.1 h hf, hQ.sendNotice hs.2 h hf⟩
  startSent hs h h' := ⟨hP.startSent hs.1 h h', hQ.startSent hs.2 h h'⟩
  answerSent hs h h' := ⟨hP.answerSent hs.1 h h', hQ.answerSent hs.2 h h'⟩
  noticeSent hs h h' := ⟨hP.noticeSent hs.1 h h', hQ.noticeSent hs.2 h h'⟩
  otherSent hs h h' := ⟨hP.otherSent hs.1 h h', hQ.otherSent hs.2 h h'⟩
  rawChange i l hs := ⟨hP.rawChange i l hs.1, hQ.rawChange i l hs.2⟩
  qualified hs h := ⟨hP.qualified hs.1 h, hQ.qualified hs.2 h⟩
  force hs h h' := ⟨hP.force hs.1 h h', hQ.force hs.2 h h'⟩
  steerTo hs h h' h'' := ⟨hP.steerTo hs.1 h h' h'', hQ.steerTo hs.2 h h' h''⟩
  takeReport hs h := ⟨hP.takeReport hs.1 h, hQ.takeReport hs.2 h⟩
  deadline hs h := ⟨hP.deadline hs.1 h, hQ.deadline hs.2 h⟩
  hold hs h := ⟨hP.hold hs.1 h, hQ.hold hs.2 h⟩
  withSettings x hs h := ⟨hP.withSettings x hs.1 h, hQ.withSettings x hs.2 h⟩
  setMasks m b hs := ⟨hP.setMasks m b hs.1, hQ.setMasks m b hs.2⟩
  alarmOff hs h := ⟨hP.alarmOff hs.1 h, hQ.alarmOff hs.2 h⟩
  createNotice hs h := ⟨hP.createNotice hs.1 h, hQ.createNotice hs.2 h⟩
  claim hs h he h' := ⟨hP.claim hs.1 h he h', hQ.claim hs.2 h he h'⟩
  release hs h he h' := ⟨hP.release hs.1 h he h', hQ.release hs.2 h he h'⟩
  returned x hs h he h' := ⟨hP.returned x hs.1 h he h', hQ.returned x hs.2 h he h'⟩
  repeated hs he h h' := ⟨hP.repeated hs.1 he h h', hQ.repeated hs.2 he h h'⟩
  exhausted hs he h h' := ⟨hP.exhausted hs.1 he h h', hQ.exhausted hs.2 he h h'⟩
  expired hs he h := ⟨hP.expired hs.1 he h, hQ.expired hs.2 he h⟩
  takeAsk hs h := ⟨hP.takeAsk hs.1 h, hQ.takeAsk hs.2 h⟩
  takeWithdrawal hs h := ⟨hP.takeWithdrawal hs.1 h, hQ.takeWithdrawal hs.2 h⟩
  guardEnds hs h := ⟨hP.guardEnds hs.1 h, hQ.guardEnds hs.2 h⟩
  repair hs h h' h'' := ⟨hP.repair hs.1 h h' h'', hQ.repair hs.2 h h' h''⟩
  openWith hs h h' h'' := ⟨hP.openWith hs.1 h h' h'', hQ.openWith hs.2 h h' h''⟩
  teardown x k o n hs h := ⟨hP.teardown x k o n hs.1 h, hQ.teardown x k o n hs.2 h⟩
  beginSave hs h := ⟨hP.beginSave hs.1 h, hQ.beginSave hs.2 h⟩
  saved hs h := ⟨hP.saved hs.1 h, hQ.saved hs.2 h⟩
  beginSetBoot d hs h := ⟨hP.beginSetBoot d hs.1 h, hQ.beginSetBoot d hs.2 h⟩
  bootSet hs h := ⟨hP.bootSet hs.1 h, hQ.bootSet hs.2 h⟩
  load hs h h' h'' := ⟨hP.load hs.1 h h' h'', hQ.load hs.2 h h' h''⟩

/-! ### What stands behind a grant -/

/-- Every line that carries a notice, and every grant asked for, is backed: the end of its notice's grants has been asked for behind it,
or `S` holds of its source and its notice (R91, R92). -/
def Backed (S : SourceNo → Byte → Prop) (s : State) : Prop :=
  (∀ g n, (s.line g).notice = some n → .finish n ∈ s.flight.asks ∨ ∃ i, (s.line g).pairing.source = some i ∧ S i n)
  ∧ (∀ pre i n post, s.flight.asks = pre ++ .grant i n :: post → .finish n ∈ post ∨ S i n)

theorem grantsLaw_iff {s : State} : GrantsLaw s ↔
    Backed s.serves s ∧ (s.session.up = false → s.flight.asks = [] ∧ ∀ g, (s.line g).holds = false) := by
  unfold GrantsLaw Backed
  rw [and_assoc]

theorem backed_mono {S S' : SourceNo → Byte → Prop} {s t : State} (hs : Backed S s) (hlines : ∀ g, (t.line g).notice = (s.line g).notice
      ∧ (t.line g).pairing.source = (s.line g).pairing.source) (hasks : t.flight.asks = s.flight.asks)
    (hS : ∀ i n, S i n → S' i n) : Backed S' t := by
  obtain ⟨hheld, hasked⟩ := hs
  constructor
  · intro g n hn
    obtain ⟨hnotice, hsource⟩ := hlines g
    rw [hasks, hsource]
    exact (hheld g n (hnotice ▸ hn)).imp_right fun ⟨i, hi, h⟩ => ⟨i, hi, hS i n h⟩
  · intro pre i n post h
    exact (hasked pre i n post (hasks ▸ h)).imp_right (hS i n)

/-- Requests are handed behind those that stand, each grant among them backed by those behind it (R73). -/
theorem backed_ask {S S' : SourceNo → Byte → Prop} {s t : State} {l : List GrantAsk} (hs : Backed S s) (hlines : t.lines = s.lines)
    (hasks : t.flight.asks = s.flight.asks ++ l) (hnew : ∀ i n, .grant i n ∈ l → S' i n)
    (hS : ∀ i n, S i n → .finish n ∈ l ∨ S' i n) : Backed S' t := by
  obtain ⟨hheld, hasked⟩ := hs
  constructor
  · intro g n hn
    rw [line_congr hlines] at hn ⊢
    rw [hasks, List.mem_append]
    obtain h | ⟨i, hi, h⟩ := hheld g n hn
    · exact .inl (.inl h)
    · exact (hS i n h).imp .inr fun h => ⟨i, hi, h⟩
  · intro pre i n post h
    rw [hasks, List.append_eq_append_iff] at h
    obtain ⟨mid, -, hl⟩ | ⟨mid, hold, hpost⟩ := h
    · exact .inr (hnew i n (hl ▸ List.mem_append_right _ (List.mem_cons_self ..)))
    · cases mid with
      | nil => exact .inr (hnew i n (by rw [← List.nil_append l, ← hpost]; exact List.mem_cons_self ..))
      | cons a mid =>
        obtain ⟨rfl, rfl⟩ := List.cons_eq_cons.mp hpost
        obtain h | h := hasked pre i n mid hold
        · exact .inl (List.mem_append_left _ h)
        · exact (hS i n h).imp_left (List.mem_append_right _)

/-- The oldest request is taken: a grant hands its backing to the line, the end of a notice's grants clears every line that carries it
(R91, R92). -/
theorem backed_takeAsk {S : SourceNo → Byte → Prop} {s : State} {a : GrantAsk} {rest : List GrantAsk} (hl : LinesLaw s) (hs : Backed S s)
    (hasks : s.flight.asks = a :: rest) : Backed S (s.popAsk.takeAsk a) := by
  obtain ⟨hheld, hasked⟩ := hs
  have hrest : (s.popAsk.takeAsk a).flight.asks = rest := by simp [State.popAsk, hasks]
  refine ⟨fun g n hn => ?_, fun pre i n post h => ?_⟩
  · rw [hrest]
    cases a with
    | grant i m =>
      have hkeep : ∀ n, (s.line g).notice = some n → .finish n ∈ rest ∨ ∃ j, (s.line g).pairing.source = some j ∧ S j n := fun n hn =>
        (hheld g n hn).imp_left fun h => by simpa [hasks] using h
      have htake : (s.popAsk.takeAsk (.grant i m)).line g = (s.popAsk.takeGrant i m).line g := rfl
      rw [takeAsk_line_pairing]
      obtain h | ⟨hsource, h⟩ := takeGrant_line s.popAsk i m g
      · exact hkeep n (by rwa [htake, h] at hn)
      · rw [htake, h] at hn
        have hback := hasked [] i m rest hasks
        unfold LineRecord.grant at hn
        split at hn
        case h_1 | h_2 =>
          cases hn
          exact hback.imp_right fun h => ⟨i, hsource, h⟩
        all_goals exact hkeep n hn
    | finish m =>
      have htake : (s.popAsk.takeAsk (.finish m)).line g = (s.popAsk.takeFinish m).line g := rfl
      rw [takeAsk_line_pairing]
      rw [htake, takeFinish_line] at hn
      split at hn
      · have hnone := finish_notice (hl g) s.popAsk.time
        rw [line_congr (t := s.popAsk) (s := s) rfl, hnone] at hn
        cases hn
      · rename_i hother
        have hne : n ≠ m := fun h => hother (h ▸ hn)
        exact (hheld g n hn).imp_left fun h => by simpa [hasks, hne] using h
  · exact hasked (a :: pre) i n post (by rw [hasks, ← hrest, h]; rfl)

/-- Once every request has been taken, what stands behind a grant is `S` alone. -/
theorem backed_takeAsks {S : SourceNo → Byte → Prop} {s : State} (hl : LinesLaw s) (hs : Backed S s) : Backed S s.takeAsks :=
  (takeAsks_keeps_of_pop (P := fun s => LinesLaw s ∧ Backed S s)
    (fun s a _ ⟨hl, hs⟩ hasks => ⟨linesLaw_takeAsk (s := s.popAsk) hl a, backed_takeAsk hl hs hasks⟩) ⟨hl, hs⟩).2

/-- At the end of teardown no line is GRANTED or waiting: the end of every entry's grants is asked for behind the requests that stand
(R84 step 3, R140). -/
theorem endGrants_holds {s : State} (hl : LinesLaw s) (hs : Backed s.serves s) (g : LineNo) : (s.endGrants.line g).holds = false := by
  have hask : Backed (fun _ _ => False) (s.ask (s.dispatcher.entries.map fun e => .finish e.number)) := by
    refine backed_ask hs rfl rfl (fun i n h => by simp at h) fun i n hserves => .inl ?_
    obtain ⟨e, he, rfl, -⟩ := hserves
    exact List.mem_map.mpr ⟨e, he, rfl⟩
  have hl' : LinesLaw (s.ask (s.dispatcher.entries.map fun e => .finish e.number)) := linesLaw_of_same hl rfl
  obtain ⟨hheld, -⟩ := backed_takeAsks hl' hask
  rw [State.endGrants, holds_eq_false_iff_notice (linesLaw_takeAsks hl' g)]
  refine Option.eq_none_iff_forall_ne_some.mpr fun n hn => ?_
  obtain h | ⟨-, -, hfalse⟩ := hheld g n hn
  · rw [takeAsks_asks] at h
    exact List.not_mem_nil h
  · exact hfalse

/-! ### The law of grants under each change -/

/-- What the grants mean stays when no line, no request and no entry in service changes. -/
theorem grantsLaw_of_serves {s t : State} (hs : GrantsLaw s) (hlines : t.lines = s.lines) (hasks : t.flight.asks = s.flight.asks)
    (hup : t.session.up = s.session.up) (hserves : ∀ i n, s.serves i n → t.serves i n) : GrantsLaw t := by
  rw [grantsLaw_iff] at hs ⊢
  obtain ⟨hbacked, hdown⟩ := hs
  refine ⟨backed_mono hbacked (fun g => by rw [line_congr hlines]; exact ⟨rfl, rfl⟩) hasks hserves, fun h => ?_⟩
  obtain ⟨hnone, hfree⟩ := hdown (hup ▸ h)
  exact ⟨hasks.trans hnone, fun g => line_congr hlines g ▸ hfree g⟩

theorem serves_congr {s t : State} (hentries : t.dispatcher.entries = s.dispatcher.entries) (hsteering : t.steering = s.steering)
    (i : SourceNo) (n : Byte) : t.serves i n ↔ s.serves i n := by
  unfold State.serves
  rw [hentries, steer_congr hsteering]

theorem grantsLaw_of_same {s t : State} (hs : GrantsLaw s) (hlines : t.lines = s.lines) (hasks : t.flight.asks = s.flight.asks)
    (hup : t.session.up = s.session.up) (hentries : t.dispatcher.entries = s.dispatcher.entries) (hsteering : t.steering = s.steering) :
    GrantsLaw t :=
  grantsLaw_of_serves hs hlines hasks hup fun i n => (serves_congr hentries hsteering i n).mpr

/-- With no line that carries a notice and no request left there is nothing to mean. -/
theorem grantsLaw_of_none {s : State} (hasks : s.flight.asks = []) (hfree : ∀ g, (s.line g).notice = none ∧ (s.line g).holds = false) :
    GrantsLaw s := by
  rw [grantsLaw_iff]
  refine ⟨⟨fun g n hn => ?_, fun pre i n post h => ?_⟩, fun _ => ⟨hasks, fun g => (hfree g).2⟩⟩
  · rw [(hfree g).1] at hn
    cases hn
  · rw [hasks] at h
    simp at h

/-- An entry in service is served on while its state, its claim list and its class stay. -/
theorem serves_of_updated {s t : State} {n : Byte} {f : NoticeEntry → NoticeEntry}
    (hentries : t.dispatcher.entries = updated n f s.dispatcher.entries) (hsteering : t.steering = s.steering)
    (hf : ∀ e ∈ s.dispatcher.entries, e.number = n → e.state = .inService →
      (f e).number = e.number ∧ (f e).state = e.state ∧ (f e).cls = e.cls ∧ (f e).claimList = e.claimList)
    {i : SourceNo} {m : Byte} (h : s.serves i m) : t.serves i m := by
  obtain ⟨e, he, hnumber, hstate, hcls, l, hlist, hitem⟩ := h
  unfold State.serves
  rw [hentries, steer_congr hsteering]
  by_cases hn : e.number = n
  · obtain ⟨hnumber', hstate', hcls', hlist'⟩ := hf e he hn hstate
    exact ⟨f e, mem_updated.mpr (.inl ⟨e, he, hn, rfl⟩), hnumber'.trans hnumber, hstate'.trans hstate, by rw [hcls, hcls'], l,
      hlist'.trans hlist, hitem⟩
  · exact ⟨e, mem_updated.mpr (.inr ⟨he, hn⟩), hnumber, hstate, hcls, l, hlist, hitem⟩

section Operations

variable {s : State}

/-- Where the source's class has no notice, the source serves none, so its entry may change (R20, R26). -/
theorem grantsLaw_steerTo {i : SourceNo} {e : SteerEntry} (hn : NoticeLaw s) (hs : GrantsLaw s) (hfree : s.steeredInUse i = none) :
    GrantsLaw (s.steerTo i e) := by
  refine grantsLaw_of_serves hs (by simp) (by simp) (by simp) fun j n hserves => ?_
  obtain ⟨x, hx, hnumber, hstate, hcls, hlist⟩ := hserves
  have hne : j ≠ i := by
    rintro rfl
    unfold State.steeredInUse at hfree
    rw [hcls, Option.filter_some, if_pos (inFlight_of_entry hn hx)] at hfree
    cases hfree
  refine ⟨x, by simpa using hx, hnumber, hstate, ?_, hlist⟩
  rw [steerTo_steer, if_neg hne]
  exact hcls

theorem grantsLaw_createNotice {c : ClassNo} (hs : GrantsLaw s) : GrantsLaw (s.createNotice c) := by
  refine grantsLaw_of_serves hs (by simp) (by simp) (by simp) fun i n hserves => ?_
  obtain ⟨e, he, hentry⟩ := hserves
  refine ⟨e, List.mem_append_left _ he, ?_⟩
  rwa [steer_congr (s := s) (by simp)]

/-- The grants of a claim are asked for sources of its claim list (R73, R91). -/
theorem grantsLaw_claim {e : NoticeEntry} (hs : GrantsLaw s) (hup : s.session.up = true) (he : e ∈ s.dispatcher.entries)
    (hn : NoticeLaw s) (hstate : e.state = .notified) : GrantsLaw (claimEffect e s) := by
  have hasks : (claimEffect e s).flight.asks = s.flight.asks ++ s.claimAsks e.number (s.claimListOf e.cls) := by
    have hpaired : ∀ t : State, t.lines = s.lines → t.claimAsks e.number (s.claimListOf e.cls) = s.claimAsks e.number (s.claimListOf e.cls) :=
      fun t ht => by simp only [State.claimAsks, State.pairedLine, line_congr ht]
    exact congrArg (s.flight.asks ++ ·) (hpaired _ (by simp))
  have hup' : (claimEffect e s).session.up = true := by simpa using hup
  rw [grantsLaw_iff] at hs ⊢
  refine ⟨backed_ask hs.1 (by simp) hasks (fun i n hgrant => ?_) (fun i n hserves => .inr ?_), fun h => ?_⟩
  · simp only [State.claimAsks, List.mem_map, GrantAsk.grant.injEq] at hgrant
    obtain ⟨x, hx, rfl, rfl⟩ := hgrant
    have hx := (List.mem_filter.mp hx).1
    have hmember : (s.steer x.source).cls = some e.cls := by
      obtain ⟨j, hj, rfl⟩ := List.mem_map.mp hx
      simpa using (List.mem_filter.mp (List.mem_filter.mp hj).1).2
    refine ⟨e.claimed (s.claimListOf e.cls) s.time (s.klass e.cls).settings.limit, ?_, rfl, rfl, ?_, _, rfl, x, hx, rfl⟩
    · rw [claimEffect_entries]
      exact mem_updated.mpr (.inl ⟨e, he, rfl, rfl⟩)
    · rwa [steer_congr (s := s) (by simp)]
  · refine serves_of_updated (claimEffect_entries e s) (by simp) (fun x hx hxn hxs => ?_) hserves
    rw [entry_eq_of_number hn he hx hxn, hstate] at hxs
    cases hxs
  · rw [hup'] at h
    cases h

/-- An entry leaves the service, and the end of its grants is asked for; an entry that is not in service has none to end (R75 to R79). -/
theorem grantsLaw_ended {t : State} {e : NoticeEntry} {l : List GrantAsk} (hs : GrantsLaw s) (hup : t.session.up = true)
    (he : e ∈ s.dispatcher.entries) (hn : NoticeLaw s) (hlines : t.lines = s.lines) (hsteering : t.steering = s.steering)
    (hasks : t.flight.asks = s.flight.asks ++ l) (hl : l = [] ∨ l = [.finish e.number])
    (hends : e.state = .inService → l = [.finish e.number])
    (hother : ∀ x ∈ s.dispatcher.entries, x.number ≠ e.number → x ∈ t.dispatcher.entries) : GrantsLaw t := by
  rw [grantsLaw_iff] at hs ⊢
  refine ⟨backed_ask hs.1 hlines hasks (fun i n hgrant => ?_) (fun i n hserves => ?_), fun h => ?_⟩
  · obtain rfl | rfl := hl <;> simp at hgrant
  · obtain ⟨x, hx, hnumber, hstate, hcls, hlist⟩ := hserves
    by_cases hxn : x.number = e.number
    · obtain rfl := entry_eq_of_number hn he hx hxn
      exact .inl (by simp [hends hstate, hnumber])
    · exact .inr ⟨x, hother x hx hxn, hnumber, hstate, by rwa [steer_congr hsteering], hlist⟩
  · rw [hup] at h
    cases h

theorem grantsLaw_takeAsk {a : GrantAsk} {rest : List GrantAsk} (hl : LinesLaw s) (hs : GrantsLaw s) (hasks : s.flight.asks = a :: rest) :
    GrantsLaw (s.popAsk.takeAsk a) := by
  rw [grantsLaw_iff] at hs ⊢
  obtain ⟨hbacked, hdown⟩ := hs
  have hserves : ∀ i n, s.serves i n → (s.popAsk.takeAsk a).serves i n := fun i n =>
    (serves_congr (by simp [State.popAsk]) (by simp [State.popAsk]) i n).mpr
  refine ⟨backed_mono (backed_takeAsk hl hbacked hasks) (fun _ => ⟨rfl, rfl⟩) rfl hserves, fun h => ?_⟩
  have hup : s.session.up = false := by simpa [State.popAsk] using h
  rw [(hdown hup).1] at hasks
  cases hasks

theorem grantsLaw_lines {t : State} (hs : GrantsLaw s) (hlines : ∀ g, (t.line g).pairing.source = (s.line g).pairing.source
      ∧ ((t.line g).notice = none ∨ (t.line g).notice = (s.line g).notice)
      ∧ ((s.line g).holds = false → (t.line g).holds = false))
    (hasks : t.flight.asks = s.flight.asks) (hup : t.session.up = s.session.up) (hserves : ∀ i n, s.serves i n → t.serves i n) :
    GrantsLaw t := by
  rw [grantsLaw_iff] at hs ⊢
  obtain ⟨⟨hheld, hasked⟩, hdown⟩ := hs
  refine ⟨⟨fun g n hn => ?_, fun pre i n post h => ?_⟩, fun h => ?_⟩
  · obtain ⟨hsource, hnone | hsame, -⟩ := hlines g
    · rw [hnone] at hn
      cases hn
    · rw [hasks, hsource]
      exact (hheld g n (hsame ▸ hn)).imp_right fun ⟨i, hi, h⟩ => ⟨i, hi, hserves i n h⟩
  · exact (hasked pre i n post (hasks ▸ h)).imp_right (hserves i n)
  · obtain ⟨hnone, hfree⟩ := hdown (hup ▸ h)
    exact ⟨hasks.trans hnone, fun g => (hlines g).2.2 (hfree g)⟩

theorem grantsLaw_takeWithdrawal {i : SourceNo} (hl : LinesLaw s) (hs : GrantsLaw s) : GrantsLaw (s.takeWithdrawal i) := by
  refine grantsLaw_lines hs (fun g => ?_) (by simp) (by simp) fun j n => (serves_congr (by simp) (by simp) j n).mpr
  rw [takeWithdrawal_line_pairing]
  obtain h | ⟨-, h⟩ := takeWithdrawal_line s i g
  · rw [h]
    exact ⟨rfl, .inr rfl, id⟩
  · rw [h]
    exact ⟨rfl, .inl (finish_notice (hl g) _), fun hfree => by rwa [finish_of_not_holds hfree]⟩

theorem guardEnds_holds {r : LineRecord} (h : r.holds = false) (hguard : r.state = .guarding) : r.guardEnds.holds = false := by
  have hidle : ¬ r.waiting = true := fun hw => by simp [LineRecord.holds, hguard, hw] at h
  unfold LineRecord.guardEnds
  rw [if_neg hidle]
  split <;> simp [LineRecord.holds]

theorem guardEnds_notice (r : LineRecord) : r.guardEnds.notice = r.notice := by
  unfold LineRecord.guardEnds
  split <;> rfl

theorem grantsLaw_guardEnds {g : LineNo} (hl : LinesLaw s) (hs : GrantsLaw s) (hguard : (s.line g).guardTimer.isSome) :
    GrantsLaw (s.setLine g (s.line g).guardEnds) := by
  refine grantsLaw_lines hs (fun h => ?_) rfl rfl fun _ _ => id
  rw [setLine_line]
  split
  · subst_vars
    obtain ⟨-, -, htimer, -⟩ := hl h
    exact ⟨by rw [guardEnds_pairing], .inr (guardEnds_notice _), fun hfree => guardEnds_holds hfree (htimer.mp hguard)⟩
  · exact ⟨rfl, .inr rfl, id⟩

/-- A line that is not GRANTED or waiting carries no notice, whatever it is paired with (R89, R90). -/
theorem grantsLaw_repair {g : LineNo} {p : Pairing} (hl : LinesLaw s) (hs : GrantsLaw s) (hfree : (s.line g).holds = false) :
    GrantsLaw (s.setLine g ((s.line g).repair p)) := by
  rw [grantsLaw_iff] at hs ⊢
  obtain ⟨⟨hheld, hasked⟩, hdown⟩ := hs
  refine ⟨⟨fun h n hn => ?_, hasked⟩, fun hd => ⟨(hdown hd).1, fun h => ?_⟩⟩
  all_goals rw [setLine_line] at *
  · by_cases hg : h = g
    · rw [if_pos hg, repair_notice, (holds_eq_false_iff_notice (hl g)).mp hfree] at hn
      cases hn
    · rw [if_neg hg] at hn ⊢
      exact hheld h n hn
  · split
    · exact repair_holds hfree p
    · exact (hdown hd).2 h

theorem grantsLaw_openWith {p : SessionParams} (hl : LinesLaw s) (hs : GrantsLaw s) (hdown : s.session.up = false) :
    GrantsLaw (s.openWith p) := by
  obtain ⟨hasks, hfree⟩ := (grantsLaw_iff.mp hs).2 hdown
  exact grantsLaw_of_none hasks fun g => ⟨(holds_eq_false_iff_notice (hl g)).mp (hfree g), hfree g⟩

theorem teardown_holds (hl : LinesLaw s) (hs : GrantsLaw s) (x : EndCause) (k : RecordKind) (o : Option ClassNo) (n : Option Byte)
    (g : LineNo) : ((s.teardown x k o n).line g).holds = false := by
  rw [line_congr (teardown_lines s x k o n)]
  exact endGrants_holds hl (grantsLaw_iff.mp hs).1 g

theorem teardown_asks (x : EndCause) (k : RecordKind) (o : Option ClassNo) (n : Option Byte) : (s.teardown x k o n).flight.asks = [] := by
  simp [State.teardown, State.endGrants]

theorem grantsLaw_teardown (hl : LinesLaw s) (hs : GrantsLaw s) (x : EndCause) (k : RecordKind) (o : Option ClassNo) (n : Option Byte) :
    GrantsLaw (s.teardown x k o n) :=
  grantsLaw_of_none (teardown_asks x k o n) fun g => by
    have hholds := teardown_holds hl hs x k o n g
    exact ⟨(holds_eq_false_iff_notice (linesLaw_teardown hl x k o n g)).mp hholds, hholds⟩

end Operations

/-- Fresh lines with no request left. -/
theorem grantsLaw_of_fresh {s : State} (hasks : s.flight.asks = []) (h : ∀ g, ∃ p, s.line g = freshLine p) : GrantsLaw s :=
  grantsLaw_of_none hasks fun g => by
    obtain ⟨p, hg⟩ := h g
    exact hg ▸ ⟨freshLine_notice p, freshLine_holds p⟩

/-- The sent count and the answer timer are nothing to the grants (R68). -/
theorem grantsLaw_noticeSent {s t : State} {n : Byte} {now : Time} {timeout : Byte} (hs : GrantsLaw s) (hlines : t.lines = s.lines)
    (hasks : t.flight.asks = s.flight.asks) (hup : t.session.up = s.session.up) (hsteering : t.steering = s.steering)
    (hentries : t.dispatcher.entries = updated n (fun e => e.frameSent now timeout) s.dispatcher.entries) : GrantsLaw t :=
  grantsLaw_of_serves hs hlines hasks hup fun _ _ => serves_of_updated hentries hsteering fun e _ _ _ => by
    unfold NoticeEntry.frameSent
    split <;> exact ⟨rfl, rfl, rfl, rfl⟩

theorem grantsLaw_answerStopped {s t : State} {n : Byte} (hs : GrantsLaw s) (hlines : t.lines = s.lines)
    (hasks : t.flight.asks = s.flight.asks) (hup : t.session.up = s.session.up) (hsteering : t.steering = s.steering)
    (hentries : t.dispatcher.entries = updated n (fun e => { e with answerTimer := none }) s.dispatcher.entries) : GrantsLaw t :=
  grantsLaw_of_serves hs hlines hasks hup fun _ _ => serves_of_updated hentries hsteering fun _ _ _ _ => ⟨rfl, rfl, rfl, rfl⟩

section Ends

variable {s : State} {e : NoticeEntry} (hs : GrantsLaw s) (hup : s.session.up = true) (he : e ∈ s.dispatcher.entries) (hn : NoticeLaw s)
include hs he hn

include hup in
theorem grantsLaw_release : GrantsLaw (releaseEffect e s) := by
  have hasks : (releaseEffect e s).flight.asks = s.flight.asks ++ if e.state = .expired then [] else [.finish e.number] := by
    unfold releaseEffect
    split <;> simp [State.ask]
  refine grantsLaw_ended hs (by simpa using hup) he hn (by simp) (by simp) hasks (by split <;> simp) (fun hstate => by simp [hstate])
    fun x hx hne => ?_
  rw [releaseEffect_dispatcher]
  exact List.mem_filter.mpr ⟨hx, bne_iff_ne.mpr hne⟩

include hup in
theorem grantsLaw_return {h : Half} (hstate : e.state = .notified) : GrantsLaw (returnEffect h e s) :=
  grantsLaw_ended (l := []) hs (by simpa using hup) he hn (by simp) (by simp) (by simp) (.inl rfl)
    (fun hservice => by simp [hstate] at hservice) fun _ hx hne => List.mem_filter.mpr ⟨hx, bne_iff_ne.mpr hne⟩

/-- A session that has an entry is UP (R60). -/
theorem grantsLaw_expired : GrantsLaw (expireEffect e s) := by
  have hup : s.session.up = true := by
    by_contra hdown
    rw [entries_of_down hn (Bool.eq_false_iff.mpr hdown)] at he
    exact List.not_mem_nil he
  refine grantsLaw_ended hs (by simpa using hup) he hn (by simp) (by simp) rfl (.inr rfl) (fun _ => rfl) fun x hx hne => ?_
  rw [expireEffect_entries]
  exact mem_updated.mpr (.inr ⟨hx, hne⟩)

end Ends

/-- A profile put in force leaves fresh lines and no request (R150, log 13). -/
theorem grantsLaw_load {s : State} (p : Profile) (hasks : s.flight.asks = []) : GrantsLaw (loadEffect p s) :=
  grantsLaw_of_fresh (by simpa using hasks) fun g => ⟨_, loadEffect_line s p g⟩

/-- The law of grants next to those of the lines and of the notice table. -/
def GrantLaws (s : State) : Prop := (LinesLaw s ∧ NoticeLaw s) ∧ GrantsLaw s

/-- Every operation of the commands keeps the laws of the lines and of the notice table together. -/
theorem kept_lineLaws : Kept fun _ s => LinesLaw s ∧ NoticeLaw s := kept_linesLaw.and kept_noticeLaw

/-- Every operation of the commands keeps what the grants mean, next to those laws. -/
theorem kept_grantLaws : Kept fun _ => GrantLaws where
  free j a c q b hs := ⟨kept_lineLaws.free (w := none) j a c q b hs.1, grantsLaw_of_same hs.2 rfl rfl rfl rfl rfl⟩
  straps b a hs := ⟨kept_lineLaws.straps b a hs.1, grantsLaw_of_same hs.2 rfl rfl rfl rfl rfl⟩
  power p h hs := ⟨kept_lineLaws.power p h hs.1, grantsLaw_of_same hs.2 rfl rfl rfl rfl rfl⟩
  waitQuiet q n hs h h' := ⟨kept_lineLaws.waitQuiet q n hs.1 h h', grantsLaw_of_same hs.2 rfl rfl rfl rfl rfl⟩
  discard hs := ⟨kept_lineLaws.discard hs.1, grantsLaw_of_same hs.2 rfl rfl rfl rfl rfl⟩
  enterWindow o hs h := ⟨kept_lineLaws.enterWindow o hs.1 h, grantsLaw_of_same hs.2 rfl rfl rfl rfl rfl⟩
  frameFails hs := ⟨kept_lineLaws.frameFails hs.1, grantsLaw_of_same hs.2 rfl rfl rfl rfl rfl⟩
  receiveTo r hs h h' h'' := ⟨kept_lineLaws.receiveTo r hs.1 h h' h'', grantsLaw_of_same hs.2 rfl rfl rfl rfl rfl⟩
  enqueue {s o} r f hs h := ⟨kept_lineLaws.enqueue (o := o) r f hs.1 h, grantsLaw_of_same hs.2 rfl rfl rfl rfl rfl⟩
  sendStart hs h := ⟨kept_lineLaws.sendStart hs.1 h, grantsLaw_of_same hs.2 rfl rfl rfl rfl rfl⟩
  sendAnswer hs h h' := ⟨kept_lineLaws.sendAnswer hs.1 h h', grantsLaw_of_same hs.2 rfl rfl rfl rfl rfl⟩
  sendNotice hs h hf := ⟨kept_lineLaws.sendNotice hs.1 h hf, grantsLaw_of_same hs.2 rfl rfl rfl rfl rfl⟩
  startSent hs h h' := ⟨kept_lineLaws.startSent hs.1 h h', grantsLaw_of_same hs.2 rfl rfl rfl rfl rfl⟩
  answerSent hs h h' := ⟨kept_lineLaws.answerSent hs.1 h h', grantsLaw_of_same hs.2 rfl rfl rfl rfl rfl⟩
  noticeSent hs h h' := ⟨kept_lineLaws.noticeSent hs.1 h h', grantsLaw_noticeSent hs.2 rfl rfl rfl rfl rfl⟩
  otherSent hs h h' := ⟨kept_lineLaws.otherSent hs.1 h h', grantsLaw_of_same hs.2 rfl rfl rfl rfl rfl⟩
  rawChange i l hs := ⟨kept_lineLaws.rawChange i l hs.1, grantsLaw_of_same hs.2 (by simp) (by simp) (by simp) (by simp) (by simp)⟩
  qualified hs h := ⟨kept_lineLaws.qualified hs.1 h, grantsLaw_of_same hs.2 (by simp) (by simp) (by simp) (by simp) (by simp)⟩
  force hs h h' := ⟨kept_lineLaws.force (w := none) hs.1 h h', grantsLaw_of_same hs.2 (by simp) (by simp) (by simp) (by simp) (by simp)⟩
  steerTo hs h h' h'' := ⟨kept_lineLaws.steerTo (w := none) hs.1 h h' h'', grantsLaw_steerTo hs.1.2 hs.2 h'⟩
  takeReport hs h := ⟨kept_lineLaws.takeReport hs.1 h, grantsLaw_of_same hs.2 (by simp) (by simp) (by simp) (by simp) (by simp)⟩
  deadline hs h := ⟨kept_lineLaws.deadline hs.1 h, grantsLaw_of_same hs.2 rfl rfl rfl rfl rfl⟩
  hold hs h := ⟨kept_lineLaws.hold hs.1 h, grantsLaw_of_same hs.2 rfl rfl rfl rfl rfl⟩
  withSettings x hs h := ⟨kept_lineLaws.withSettings (w := none) x hs.1 h, grantsLaw_of_same hs.2 rfl rfl rfl rfl rfl⟩
  setMasks m b hs := ⟨kept_lineLaws.setMasks (w := none) m b hs.1, grantsLaw_of_same hs.2 (by simp) (by simp) (by simp) (by simp) (by simp)⟩
  alarmOff hs h := ⟨kept_lineLaws.alarmOff (w := none) hs.1 h, grantsLaw_of_same hs.2 rfl rfl rfl rfl rfl⟩
  createNotice hs h := ⟨kept_lineLaws.createNotice hs.1 h, grantsLaw_createNotice hs.2⟩
  claim hs h he h' := ⟨kept_lineLaws.claim (w := none) hs.1 h he h', grantsLaw_claim hs.2 h he hs.1.2 h'⟩
  release hs h he h' := ⟨kept_lineLaws.release (w := none) hs.1 h he h', grantsLaw_release hs.2 h he hs.1.2⟩
  returned x hs h he h' := ⟨kept_lineLaws.returned (w := none) x hs.1 h he h', grantsLaw_return hs.2 h he hs.1.2 h'⟩
  repeated hs he h h' := ⟨kept_lineLaws.repeated hs.1 he h h', grantsLaw_answerStopped hs.2 rfl rfl rfl rfl rfl⟩
  exhausted hs he h h' := ⟨kept_lineLaws.exhausted hs.1 he h h', grantsLaw_answerStopped hs.2 rfl rfl rfl rfl rfl⟩
  expired hs he h := ⟨kept_lineLaws.expired hs.1 he h, grantsLaw_expired hs.2 he hs.1.2⟩
  takeAsk hs h := ⟨kept_lineLaws.takeAsk (w := none) hs.1 h, grantsLaw_takeAsk hs.1.1 hs.2 h⟩
  takeWithdrawal hs h := ⟨kept_lineLaws.takeWithdrawal hs.1 h, grantsLaw_takeWithdrawal (linesLaw_of_same hs.1.1 rfl) (grantsLaw_of_same hs.2 rfl rfl rfl rfl rfl)⟩
  guardEnds hs h := ⟨kept_lineLaws.guardEnds hs.1 h, grantsLaw_guardEnds hs.1.1 hs.2 h⟩
  repair hs h h' h'' := ⟨kept_lineLaws.repair (w := none) hs.1 h h' h'', grantsLaw_repair hs.1.1 hs.2 h'⟩
  openWith hs h h' h'' := ⟨kept_lineLaws.openWith (w := none) hs.1 h h' h'', grantsLaw_openWith hs.1.1 hs.2 h⟩
  teardown x k o n hs h := ⟨kept_lineLaws.teardown (w := none) x k o n hs.1 h, grantsLaw_teardown hs.1.1 hs.2 x k o n⟩
  beginSave hs h := ⟨kept_lineLaws.beginSave hs.1 h, grantsLaw_of_same hs.2 rfl rfl rfl rfl rfl⟩
  saved hs h := ⟨kept_lineLaws.saved hs.1 h, grantsLaw_of_same hs.2 rfl rfl rfl rfl rfl⟩
  beginSetBoot d hs h := ⟨kept_lineLaws.beginSetBoot d hs.1 h, grantsLaw_of_same hs.2 rfl rfl rfl rfl rfl⟩
  bootSet hs h := ⟨kept_lineLaws.bootSet hs.1 h, grantsLaw_of_same hs.2 rfl rfl rfl rfl rfl⟩
  load hs h h' h'' := ⟨kept_lineLaws.load (w := none) hs.1 h h' h'', grantsLaw_load _ h⟩

/-- Settles O10: `kept_linesLaw` keeps each line, and `kept_grantLaws` what stands behind its grant; a reset and start-up leave fresh
lines and no request. -/
theorem linesAndGrantsLawsKeptByEveryStep : Obligations.LinesAndGrantsLawsKeptByEveryStep := by
  intro s t hlines hstep
  refine ⟨linesLaw_step hlines hstep, fun hreset hnotice hgrants => ?_⟩
  have htick : GrantLaws s.tick := by
    refine ⟨⟨?_, noticeLaw_tick hnotice⟩, ?_⟩
    all_goals
      obtain ⟨-, h⟩ | ⟨-, -, h⟩ | ⟨-, -, h⟩ := tick_cases s
      all_goals rw [h]
    · exact hlines
    · exact linesLaw_of_same hlines rfl
    · exact linesLaw_of_same hlines rfl
    · exact hgrants
    · exact grantsLaw_of_same hgrants rfl rfl rfl rfl rfl
    · exact grantsLaw_of_same hgrants rfl rfl rfl rfl rfl
  obtain ht | ⟨q, ht | ⟨hread, rfl⟩⟩ := kept_grantLaws.step_cases ⟨⟨hlines, hnotice⟩, hgrants⟩ (fun _ => htick) hstep
  · exact ht.2
  · refine grantsLaw_of_fresh ?_ fun g => ⟨_, beginsReset_line ht g⟩
    obtain ⟨cause, l, p, -, rfl⟩ := ht
    rfl
  · refine grantsLaw_of_fresh ?_ fun g => ⟨_, startUp_line _ g⟩
    obtain ⟨-, -, -, -, -, -, -, -, -, hflight⟩ := hreset (inReset_of_storeRead hread)
    simp [State.startUp, State.enableReceiver, State.journalStartUp, State.leaveReset, hflight, noMessages]

end Sys2Proof.Proofs

/-! ## Order admission (O17, O18)

A frame is taken by its order only at an enabled receiver that does not wait, with room in the window; and then by its length. -/

namespace Sys2Proof.Proofs

open Sys2Proof Sys2Proof.Machine Sys2Proof.Laws

/-- Whatever its kind, a frame that arrives goes through order admission, with its own kind and tag (R121). -/
theorem frameArrival_eq_takeOrder (kind tag : Byte) (payload : List Byte) :
    ∃ body, ∀ s, frameArrival kind tag payload s = .next (s.takeOrder kind tag payload body) := by
  have hkind : ∀ n : Nat, n < 256 → kind.toNat = n → kind = BitVec.ofNat 8 n := fun n hn h =>
    BitVec.eq_of_toNat_eq (by rw [h, BitVec.toNat_ofNat, Nat.mod_eq_of_lt hn])
  unfold frameArrival
  split
  case h_24 => exact ⟨_, fun _ => rfl⟩
  all_goals
    rename_i hcode
    rw [hkind _ (by decide) hcode]
    exact ⟨_, fun _ => rfl⟩

/-- A command that is the arrival of a frame goes through order admission. -/
theorem exec_eq_takeOrder {i : Instr} {f : Frame} (h : frameOf i = some f) :
    ∃ body, ∀ s, exec i s = .next (s.takeOrder f.kind f.tag f.payload body) := by
  obtain ⟨body, hbody⟩ := frameArrival_eq_takeOrder f.kind f.tag f.payload
  exact ⟨body, fun s => (exec_eq_frameArrival h s).trans (hbody s)⟩

section Refused

variable {s : State} {kind tag : Byte} {payload : List Byte} {body : Order → State → State}

theorem takeOrder_of_disabled (h : s.link.rxEnabled = false) : s.takeOrder kind tag payload body = s := by simp [State.takeOrder, h]

theorem takeOrder_of_wait {w : RxWait} (henabled : s.link.rxEnabled = true) (hwait : s.link.rxWait = some w) :
    s.takeOrder kind tag payload body = s.passOver w (highHalfBits ((frameCheck kind tag payload).setWidth 8)) := by
  simp [State.takeOrder, henabled, hwait]

theorem takeOrder_of_full (henabled : s.link.rxEnabled = true) (hwait : s.link.rxWait = none) (hfull : 4 ≤ s.link.window.length) :
    s.takeOrder kind tag payload body = s.discard := by
  simp [State.takeOrder, henabled, hwait, hfull]

theorem passOver_of_enabled {w : RxWait} (h : w.quiet = .enabled) (n : Nat) : s.passOver w n = s.waitQuiet .enabled n := by
  simp [State.passOver, h]

theorem passOver_of_characterError {w : RxWait} (h : w.quiet = .characterError) (n : Nat) : s.passOver w n = s := by
  simp [State.passOver, h]

end Refused

/-- A disabled receiver receives no frame (R116). -/
theorem exec_of_disabled {i : Instr} {f : Frame} {s : State} (hf : frameOf i = some f) (h : s.link.rxEnabled = false) :
    exec i s = .next s := by
  obtain ⟨body, hexec⟩ := exec_eq_takeOrder hf
  rw [hexec, takeOrder_of_disabled h]

/-- Settles O17: each clause is one branch of order admission, which every frame goes through. -/
theorem ordersRefusedAtTheLink : Obligations.OrdersRefusedAtTheLink := by
  intro i f s hf
  refine ⟨exec_of_disabled hf, ?_⟩
  obtain ⟨body, hexec⟩ := exec_eq_takeOrder hf
  simp only [hexec]
  refine ⟨fun w henabled hwait hquiet => ?_, fun w henabled hwait hquiet => ?_, fun henabled hwait hfull => ?_⟩
  · rw [takeOrder_of_wait henabled hwait, passOver_of_enabled hquiet]
    rfl
  · rw [takeOrder_of_wait henabled hwait, passOver_of_characterError hquiet]
  · rw [takeOrder_of_full henabled hwait hfull]
    rfl

/-- An admitted order of a length that its kind does not admit is taken by its malformed answer (R121 step 3). -/
theorem frameArrival_malformed {s : State} (hadmits : s.admits) {kind : Byte} (tag : Byte) {payload : List Byte}
    (hkind : isOrderCode kind = true) (hlength : lengthAdmitted kind payload.length = false) :
    frameArrival kind tag payload s
      = .next ((s.enterWindow { kind := kind, tag := tag }).replyMalformed { kind := kind, tag := tag } payload) := by
  have hcode : ∀ n : Nat, n < 256 → kind.toNat = n → kind = BitVec.ofNat 8 n := fun n hn h =>
    BitVec.eq_of_toNat_eq (by rw [h, BitVec.toNat_ofNat, Nat.mod_eq_of_lt hn])
  unfold frameArrival
  split
  case h_24 =>
    obtain ⟨hlow, hhigh⟩ : 1 ≤ kind.toNat ∧ kind.toNat ≤ 23 := by simpa [isOrderCode] using hkind
    exfalso
    interval_cases kind.toNat <;> simp_all only [imp_false, not_true_eq_false]
  all_goals
    rename_i hn
    obtain rfl := hcode _ (by decide) hn
    refine congrArg Host.Outcome.next ((takeOrder_of_admits hadmits ..).trans ?_)
    split
    · simp_all [lengthAdmitted]
    · rfl

/-- Settles O18: the body of every order answers a length that it does not know. -/
theorem wrongLengthIsAnsweredMalformed : Obligations.WrongLengthIsAnsweredMalformed := by
  intro i f s hf hkind hlength hadmits
  rw [exec_eq_frameArrival hf, frameArrival_malformed hadmits f.tag hkind hlength]
  exact congrArg Host.Outcome.next (enterWindow_reply ..)

end Sys2Proof.Proofs

/-! ## A part in reset

What a command does to a part in reset: the raw levels, the straps and the lasting causes are seen, and nothing else is taken. -/

namespace Sys2Proof.Proofs

open Sys2Proof Sys2Proof.Machine Sys2Proof.Laws

/-- The part is in reset and holds its reset values (R158). -/
def AtReset (s : State) : Prop :=
  s.power.inReset = true ∧ s.time = 0 ∧ s.alarm = false
  ∧ (∀ i, (s.src i).timer = none ∧ (s.src i).latch = false ∧ (s.src i).count = 0 ∧ (s.src i).forced = false ∧ (s.src i).live = false)
  ∧ (∀ c, s.klass c = resetClass (s.klass c).settings) ∧ s.dispatcher = resetDispatcher
  ∧ (∀ g, s.line g = freshLine (s.line g).pairing) ∧ s.link = s.link.inReset ∧ s.session = resetSession
  ∧ s.store.operation = .none ∧ s.flight = noMessages

theorem resetLaw_iff {s : State} : ResetLaw s ↔ (s.power.inReset = true → AtReset s) :=
  ⟨fun h hreset => ⟨hreset, h hreset⟩, fun h hreset => (h hreset).2⟩

theorem atReset_queue {s : State} (hs : AtReset s) (q : List Instr) : AtReset { s with pending := q } := hs

theorem atReset_power {s : State} (hs : AtReset s) {p : ResetUnit} (hp : p.inReset = true) : AtReset { s with power := p } := ⟨hp, hs.2⟩

theorem atReset_straps {s : State} (hs : AtReset s) (b a : Bool) : AtReset { s with link := { s.link with rateB := b, rateA := a } } := by
  obtain ⟨hreset, htime, halarm, hsources, hclasses, hdispatcher, hlines, hlink, hsession, hoperation, hflight⟩ := hs
  refine ⟨hreset, htime, halarm, hsources, hclasses, hdispatcher, hlines, ?_, hsession, hoperation, hflight⟩
  rw [hlink]
  rfl

theorem atReset_raw {s : State} (hs : AtReset s) (i : SourceNo) (level : Level) : AtReset (s.setSrc i { s.src i with raw := level }) := by
  obtain ⟨hreset, htime, halarm, hsources, hrest⟩ := hs
  refine ⟨hreset, htime, halarm, fun j => ?_, hrest⟩
  rw [setSrc_src]
  split
  · exact hsources i
  · exact hsources j

theorem atReset_beginsReset {s t : State} (ht : BeginsReset s t) : AtReset t := by
  have hline := beginsReset_line ht
  obtain ⟨cause, l, p, hreset, rfl⟩ := ht
  refine ⟨hreset, rfl, rfl, fun i => ?_, fun c => ?_, rfl, fun g => ?_, rfl, rfl, rfl, rfl⟩
  · simp [State.beginReset, State.src, SourceRecord.inReset, resetSource]
  · simp [State.beginReset, State.klass, resetClass]
  · rw [hline, freshLine_pairing]

section InReset

variable {s : State} (hs : AtReset s)
include hs

theorem atReset_takeLoss : s.takeLoss = s := by
  obtain ⟨-, -, -, -, -, -, -, -, -, -, hflight⟩ := hs
  simp [State.takeLoss, hflight, noMessages]

theorem atReset_entry? (n : Byte) : s.entry? n = none := by
  obtain ⟨-, -, -, -, -, hdispatcher, -⟩ := hs
  simp [State.entry?, hdispatcher, resetDispatcher]

theorem atReset_dueEvent : s.dueEvent = none := by
  obtain ⟨hreset, -⟩ := hs
  simp [State.dueEvent, hreset]

/-- In reset a raw level is seen and no change is taken (R3). -/
theorem atReset_rawChange (i : SourceNo) (level : Level) : AtReset (s.rawChange i level) := by
  simp only [State.rawChange, hs.1, if_true]
  split
  · exact hs
  · exact atReset_raw hs i level

/-- No event of the link, of a timer or of a message finds anything to take in reset; a reset may begin again, and start-up ends it. -/
theorem exec_of_atReset {i : Instr} {t : State} (hx : exec i s = .next t) : AtReset t ∨ (s.power.storeRead = true ∧ t = s.startUp) := by
  have hstays : exec i s = .next s → AtReset t ∨ (s.power.storeRead = true ∧ t = s.startUp) := fun h => by
    rw [h] at hx
    cases hx
    exact .inl hs
  obtain ⟨hreset, -, -, hsources, hclasses, -, hlines, hlink, -, hoperation, hflight⟩ := id hs
  have hdisabled : s.link.rxEnabled = false := by rw [hlink]; rfl
  have hdeadline : ∀ c, (s.klass c).deadlineTimer = none := fun c => by rw [hclasses]; rfl
  have hhold : ∀ c, (s.klass c).holdTimer = none := fun c => by rw [hclasses]; rfl
  have hguard : ∀ g, (s.line g).guardTimer = none := fun g => by rw [hlines]; rfl
  have hrx : s.link.rxTimer = none := by rw [hlink]; rfl
  have htx : s.link.tx = none := by rw [hlink]; rfl
  cases i with
  | frameFailure _ => exact hstays (by simp [exec, execFrameFailure, hdisabled])
  | byteReceived _ => exact hstays (by simp [exec, execByteReceived, hdisabled])
  | interByteGapExpiry => exact hstays (by simp [exec, execInterByteGapExpiry, hrx, due])
  | qualificationTimerExpiry i => exact hstays (by simp [exec, execQualificationTimerExpiry, (hsources i).1])
  | contributionReport _ => exact hstays (by simp [exec, execContributionReport, hflight, noMessages])
  | deadlineExpiry c => exact hstays (by simp [exec, execDeadlineExpiry, hdeadline, due])
  | holdExpiry c => exact hstays (by simp [exec, execHoldExpiry, hhold, due])
  | answerTimerExpiry n => exact hstays (by simp only [exec, execAnswerTimerExpiry, atReset_takeLoss hs, atReset_entry? hs])
  | serviceTimerExpiry n => exact hstays (by simp only [exec, execServiceTimerExpiry, atReset_entry? hs])
  | guardExpiry g => exact hstays (by simp [exec, execGuardExpiry, hguard, due])
  | grantRequest => exact hstays (by simp [exec, execGrantRequest, hflight, noMessages])
  | grantEndRequest => exact hstays (by simp [exec, execGrantEndRequest, hflight, noMessages])
  | endOnWithdraw _ => exact hstays (by simp [exec, execEndOnWithdraw, hflight, noMessages])
  | journalArrival => exact hstays (by simp [exec, execJournalArrival, hflight, noMessages])
  | sessionLost => exact hstays (by simp only [exec, execSessionLost, atReset_takeLoss hs])
  | transmissionCompletion => exact hstays (by simp [exec, execTransmissionCompletion, htx])
  | profileSaveCompletion => exact hstays (by simp [exec, execProfileSaveCompletion, hoperation])
  | setBootCompletion => exact hstays (by simp [exec, execSetBootCompletion, hoperation])
  | rawLevelChange pin level =>
    cases pin <;> cases hx
    · exact .inl (atReset_rawChange hs _ level)
    · exact .inl (atReset_straps hs _ s.link.rateA)
    · exact .inl (atReset_straps hs s.link.rateB _)
  | powerOn =>
    cases hx
    exact .inl (atReset_beginsReset ⟨.powerOn, s.link, _, rfl, rfl⟩)
  | pinReset =>
    cases hx
    exact .inl (atReset_beginsReset ⟨.pin, s.link, _, rfl, rfl⟩)
  | supplyInRange | resetRelease =>
    cases hx
    exact .inl (atReset_power hs hreset)
  | startUp =>
    change execStartUp s = .next t at hx
    unfold execStartUp at hx
    split at hx <;> cases hx
    · exact .inr ⟨‹_›, rfl⟩
    · exact .inl hs
  | _ => exact hstays (exec_of_disabled rfl hdisabled)

end InReset

/-- The part is out of reset: every operation of the commands leaves it so. -/
theorem kept_running : Kept fun _ s => s.power.inReset = false where
  free _ _ _ _ _ hs := hs
  straps _ _ hs := hs
  power _ h hs := h.trans hs
  waitQuiet _ _ hs _ _ := hs
  discard hs := hs
  enterWindow _ hs _ := hs
  frameFails hs := hs
  receiveTo _ hs _ _ _ := hs
  enqueue _ _ hs _ := hs
  sendStart hs _ := hs
  sendAnswer hs _ _ := hs
  sendNotice hs _ _ := hs
  startSent hs _ _ := hs
  answerSent hs _ _ := hs
  noticeSent hs _ _ := hs
  otherSent hs _ _ := hs
  rawChange _ _ hs := by simpa using hs
  qualified hs _ := by simpa using hs
  force hs _ _ := by simpa using hs
  steerTo hs _ _ _ := by simpa using hs
  takeReport hs _ := by simpa using hs
  deadline hs _ := hs
  hold hs _ := hs
  withSettings _ hs _ := hs
  setMasks _ _ hs := by simpa using hs
  alarmOff hs _ := hs
  createNotice hs _ := by simpa using hs
  claim hs _ _ _ := by simpa using hs
  release hs _ _ _ := by simpa using hs
  returned _ hs _ _ _ := by simpa using hs
  repeated hs _ _ _ := hs
  exhausted hs _ _ _ := hs
  expired hs _ _ := by simpa using hs
  takeAsk hs _ := by simpa [State.popAsk] using hs
  takeWithdrawal hs _ := by simpa using hs
  guardEnds hs _ := hs
  repair hs _ _ _ := hs
  openWith hs _ _ _ := by simpa using hs
  teardown _ _ _ _ hs _ := by simpa using hs
  beginSave hs _ := hs
  saved hs _ := hs
  beginSetBoot _ hs _ := hs
  bootSet hs _ := hs
  load hs _ _ _ := by simpa using hs

theorem startUp_inReset (s : State) : s.startUp.power.inReset = false := by
  simp [State.startUp, State.enableReceiver, State.journalStartUp, State.leaveReset]

/-- A step of a part in reset leaves it at its reset values, or is start-up. -/
theorem step_of_atReset {s t : State} (hs : AtReset s) (hstep : step s = .next t) :
    AtReset t ∨ ∃ q, s.power.storeRead = true ∧ t = ({ s with pending := q } : State).startUp := by
  unfold step at hstep
  split at hstep
  · unfold idle at hstep
    rw [atReset_dueEvent hs] at hstep
    cases hstep
    left
    unfold State.tick
    rwa [if_pos hs.1]
  · rename_i rest _
    exact (exec_of_atReset (atReset_queue hs rest) hstep).imp_right fun h => ⟨rest, h⟩

theorem resetLaw_step {s t : State} (hs : ResetLaw s) (hstep : step s = .next t) : ResetLaw t := by
  rw [resetLaw_iff] at hs ⊢
  intro hreset
  by_cases hin : s.power.inReset = true
  · obtain ht | ⟨q, -, rfl⟩ := step_of_atReset (hs hin) hstep
    · exact ht
    · rw [startUp_inReset] at hreset
      cases hreset
  · have hrunning : s.power.inReset = false := Bool.eq_false_iff.mpr hin
    have htick : s.tick.power.inReset = false := by
      unfold State.tick
      rwa [if_neg hin]
    obtain ht | ⟨q, ht | ⟨hread, -⟩⟩ := kept_running.step_cases hrunning (fun _ => htick) hstep
    · rw [ht] at hreset
      cases hreset
    · exact atReset_beginsReset ht
    · exact absurd (inReset_of_storeRead hread) hin

end Sys2Proof.Proofs

/-! ## Timers

No timer is further from its expiry than the longest there is: what each operation starts is shorter, and time passes only while none
has expired. -/

namespace Sys2Proof.Proofs

open Sys2Proof Sys2Proof.Machine Sys2Proof.Laws

/-! ### Lengths -/

/-- An expiry reading lies ahead of the counter, by no more than the longest timer there is (R2). -/
def Near (now t : Time) : Prop := (t - now).toNat ≤ 65535000

theorem near_add {now : Time} {n : Nat} (hn : n ≤ 65535000) : Near now (now + BitVec.ofNat 32 n) := by
  have hlength : now + BitVec.ofNat 32 n - now = BitVec.ofNat 32 n := by rw [BitVec.add_comm, BitVec.add_sub_cancel]
  rw [Near, hlength, BitVec.toNat_ofNat]
  exact (Nat.mod_le _ _).trans hn

theorem near_millis (now : Time) (ms : Half) : Near now (now + millis ms) := near_add (by have := ms.isLt; omega)

theorem near_micros (now : Time) (us : Byte) : Near now (now + micros us) := near_add (by have := us.isLt; omega)

theorem near_qualLength (now : Time) (q : Fin 16) : Near now (now + qualLength q) := near_add (by have := q.isLt; omega)

theorem near_gap (now : Time) : Near now (now + 5000) := near_add (n := 5000) (by decide)

theorem near_saveLength (now : Time) (n : Nat) : Near now (now + saveLength n) :=
  near_add (by have := Nat.mod_lt (Config.saveTime n) (show 15001 > 0 by decide); omega)

theorem near_designationLength (now : Time) (n : Nat) : Near now (now + designationLength n) :=
  near_add (by have := Nat.mod_lt (Config.designationTime n) (show 4001 > 0 by decide); omega)

theorem near_frameMicros (now : Time) (rate : LinkRate) {len : Nat} (hlen : len ≤ 60) : Near now (now + frameMicros rate len) := by
  have hbits : (len + 6) * 10 * 1000000 ≤ 660000000 := by omega
  exact near_add ((Nat.div_le_div hbits (show 115200 ≤ rate.bitsPerSecond by cases rate <;> decide) (by decide)).trans (by decide))

theorem near_quietMicros (now : Time) (rate : LinkRate) (quiet : Quiet) (high : Nat) : Near now (now + quietMicros rate quiet high) := by
  have hhalf : quiet.halfBits ≤ 20 := by cases quiet <;> decide
  have hrate : rate.bitsPerSecond ≤ 2000000 := by cases rate <;> decide
  have hbits : (quiet.halfBits + 19 - high) * 500000 + (rate.bitsPerSecond - 1) ≤ 21500000 := by omega
  exact near_add ((Nat.div_le_div hbits (show 115200 ≤ rate.bitsPerSecond by cases rate <;> decide) (by decide)).trans (by decide))

/-- A timer that has not expired has not expired a microsecond later, or has just then run its length (R2). -/
theorem near_tick {now t : Time} (h : Near now t) (hnot : reached now t = false) : Near (now + 1) t := by
  have hne : t ≠ now := by
    rintro rfl
    simp [reached] at hnot
  unfold Near at h ⊢
  bv_omega

theorem near_of_not_reached {now t : Time} (h : reached now t = false) : Near now t := by
  simp only [reached, Bool.or_eq_false_iff, decide_eq_false_iff_not] at h
  exact Nat.le_of_not_lt h.2

/-! ### The timers of each record -/

/-- A timer, if it runs, is near. -/
def TimerNear (now : Time) (x : Option Time) : Prop := ∀ t, x = some t → Near now t

theorem timerNear_none (now : Time) : TimerNear now none := nofun

theorem timerNear_some {now t : Time} (h : Near now t) : TimerNear now (some t) := fun _ ht => Option.some.inj ht ▸ h

def SourceNear (now : Time) (r : SourceRecord) : Prop := TimerNear now (r.timer.map (·.expiry))

def ClassNear (now : Time) (r : ClassRecord) : Prop := TimerNear now r.deadlineTimer ∧ TimerNear now r.holdTimer

def EntryNear (now : Time) (e : NoticeEntry) : Prop := TimerNear now e.answerTimer ∧ TimerNear now e.serviceTimer

def LinkNear (now : Time) (l : Link) : Prop :=
  TimerNear now l.rxTimer ∧ TimerNear now (l.rxWait.map (·.ends)) ∧ TimerNear now (l.tx.map (·.ends))

/-- Every timer that runs is near, and every frame that waits fits (R2, R125, R164). -/
structure Timely (s : State) : Prop where
  sources : ∀ i, SourceNear s.time (s.src i)
  classes : ∀ c, ClassNear s.time (s.klass c)
  entries : ∀ e ∈ s.dispatcher.entries, EntryNear s.time e
  lines : ∀ g, TimerNear s.time (s.line g).guardTimer
  link : LinkNear s.time s.link
  operation : TimerNear s.time s.store.operation.ends?
  answers : ∀ a ∈ s.link.answers, a.fields.length ≤ 58
  frames : ∀ f ∈ s.dispatcher.sendList, f.payload.length ≤ 60

theorem mem_filterMap_all {n : Nat} {l : List (Fin n)} (hl : ∀ x, x ∈ l) (f : Fin n → Option Time) (now : Time) :
    (∀ t ∈ l.filterMap f, Near now t) ↔ ∀ x, TimerNear now (f x) := by
  simp only [List.mem_filterMap]
  exact ⟨fun h x t ht => h t ⟨x, hl x, ht⟩, fun h t ⟨x, _, ht⟩ => h x t ht⟩

theorem mem_filterMap_entries (l : List NoticeEntry) (f : NoticeEntry → Option Time) (now : Time) :
    (∀ t ∈ l.filterMap f, Near now t) ↔ ∀ e ∈ l, TimerNear now (f e) := by
  simp only [List.mem_filterMap]
  exact ⟨fun h e he t ht => h t ⟨e, he, ht⟩, fun h t ⟨e, he, ht⟩ => h e he t ht⟩

theorem mem_toList_timer (x : Option Time) (now : Time) : (∀ t ∈ x.toList, Near now t) ↔ TimerNear now x := by
  simp only [Option.mem_toList]
  rfl

theorem timely_iff {s : State} : Timely s ↔ TimersLaw s ∧ FramesFit s := by
  have hrunning : TimersLaw s ↔ (∀ i, SourceNear s.time (s.src i)) ∧ (∀ c, TimerNear s.time (s.klass c).deadlineTimer)
      ∧ (∀ c, TimerNear s.time (s.klass c).holdTimer) ∧ (∀ e ∈ s.dispatcher.entries, TimerNear s.time e.answerTimer)
      ∧ (∀ e ∈ s.dispatcher.entries, TimerNear s.time e.serviceTimer) ∧ (∀ g, TimerNear s.time (s.line g).guardTimer)
      ∧ TimerNear s.time s.link.rxTimer ∧ TimerNear s.time (s.link.rxWait.map (·.ends)) ∧ TimerNear s.time (s.link.tx.map (·.ends))
      ∧ TimerNear s.time s.store.operation.ends? := by
    have hlaw : TimersLaw s ↔ ∀ t ∈ s.runningTimers, Near s.time t := Iff.rfl
    rw [hlaw]
    simp only [State.runningTimers, List.forall_mem_append, mem_filterMap_all mem_allSources, mem_filterMap_all mem_allClasses,
      mem_filterMap_all mem_allLines, mem_filterMap_entries, mem_toList_timer, and_assoc]
    rfl
  rw [hrunning]
  constructor
  · rintro ⟨hsources, hclasses, hentries, hlines, ⟨hrx, hwait, htx⟩, hoperation, hanswers, hframes⟩
    exact ⟨⟨hsources, fun c => (hclasses c).1, fun c => (hclasses c).2, fun e he => (hentries e he).1, fun e he => (hentries e he).2,
      hlines, hrx, hwait, htx, hoperation⟩, hanswers, hframes⟩
  · rintro ⟨⟨hsources, hdeadlines, hholds, hanswer, hservice, hlines, hrx, hwait, htx, hoperation⟩, hanswers, hframes⟩
    exact ⟨hsources, fun c => ⟨hdeadlines c, hholds c⟩, fun e he => ⟨hanswer e he, hservice e he⟩, hlines, ⟨hrx, hwait, htx⟩, hoperation,
      hanswers, hframes⟩

/-! ### What an operation makes of each record -/

section Records

variable {now : Time}

section Source

variable {r : SourceRecord}

theorem derived_timer (m : SourceMode) (r : SourceRecord) : (derived m r).timer = r.timer := by
  unfold derived
  split
  · rfl
  · split <;> rfl

theorem moved_timer (m : SourceMode) (r : SourceRecord) (level : Level) : (moved m r level).timer = r.timer := by
  unfold moved
  split
  · rw [derived_timer]
  · split <;> rfl

theorem sourceNear_of_timer {r' : SourceRecord} (h : SourceNear now r) (htimer : r'.timer = r.timer) : SourceNear now r' := by
  unfold SourceNear at h ⊢
  rwa [htimer]

theorem sourceNear_stopped (r : SourceRecord) : SourceNear now { r with timer := none } := timerNear_none now

end Source

section Class

variable {r : ClassRecord} {found : List SourceNo}

theorem classNear_enterIdle (r : ClassRecord) : ClassNear now r.enterIdle := ⟨timerNear_none now, timerNear_none now⟩

theorem classNear_enterFresh (h : ClassNear now r) : ClassNear now (r.enterFresh now found) := by
  refine ⟨?_, h.2⟩
  unfold ClassRecord.enterFresh
  dsimp only
  split
  · exact timerNear_some (near_millis _ _)
  · exact timerNear_none _

theorem classNear_settleFresh (h : ClassNear now r) : ClassNear now (r.settleFresh now found) := by
  unfold ClassRecord.settleFresh
  split
  · exact classNear_enterIdle r
  · exact classNear_enterFresh h

theorem classNear_settleContinued (h : ClassNear now r) : ClassNear now (r.settleContinued found) := by
  unfold ClassRecord.settleContinued
  split
  · exact classNear_enterIdle r
  · exact ⟨h.1, timerNear_none _⟩

theorem classNear_reevaluate (h : ClassNear now r) : ClassNear now (r.reevaluate now found) := by
  unfold ClassRecord.reevaluate
  split
  · exact classNear_settleFresh h
  · split
    · exact classNear_enterIdle r
    · exact h
  all_goals exact h

theorem classNear_reportOn (h : ClassNear now r) (i : SourceNo) : ClassNear now (r.reportOn now i) := by
  unfold ClassRecord.reportOn
  split
  · exact classNear_enterFresh h
  all_goals exact h

theorem classNear_reportOff (h : ClassNear now r) (i : SourceNo) : ClassNear now (r.reportOff i found) := by
  unfold ClassRecord.reportOff
  split
  · exact h
  · split
    · exact classNear_enterIdle r
    · exact h
  all_goals exact h

theorem classNear_tornDown (h : ClassNear now r) : ClassNear now (r.tornDown now found) := by
  unfold ClassRecord.tornDown
  split
  case h_1 | h_2 => exact classNear_settleContinued h
  case h_3 | h_4 => exact classNear_settleFresh h
  case h_5 | h_6 => exact h

theorem classNear_loaded (r : ClassRecord) (x : ClassSettings) : ClassNear now (r.loaded x now found) :=
  classNear_settleFresh (classNear_enterIdle _)

theorem classNear_returned (h : ClassNear now r) (hold : Half) : ClassNear now (r.returned hold now found) := by
  unfold ClassRecord.returned
  split
  · exact classNear_settleContinued h
  · exact ⟨h.1, timerNear_some (near_millis _ _)⟩

theorem classNear_withSettings (h : ClassNear now r) (x : ClassSettings) : ClassNear now (r.withSettings x now) := by
  unfold ClassRecord.withSettings
  split
  · split
    · exact ⟨timerNear_some (near_millis _ _), h.2⟩
    · exact h
  · split
    · exact ⟨timerNear_none _, h.2⟩
    · exact h

end Class

section Line

variable {r : LineRecord}

theorem timerNear_finish (h : TimerNear now r.guardTimer) : TimerNear now (r.finish now).guardTimer := by
  unfold LineRecord.finish
  split
  · unfold LineRecord.endGrant
    split
    · exact h
    · exact timerNear_some (near_micros _ _)
  · split <;> exact h

theorem grant_guardTimer (r : LineRecord) (n : Byte) : (r.grant n).guardTimer = r.guardTimer := by
  unfold LineRecord.grant
  split <;> rfl

theorem guardEnds_guardTimer (r : LineRecord) : r.guardEnds.guardTimer = none := by
  unfold LineRecord.guardEnds
  split <;> rfl

theorem repair_guardTimer (r : LineRecord) (p : Pairing) : (r.repair p).guardTimer = r.guardTimer := by
  unfold LineRecord.repair
  split <;> rfl

end Line

section Entry

variable {e : NoticeEntry}

theorem entryNear_frameSent (h : EntryNear now e) (timeout : Byte) : EntryNear now (e.frameSent now timeout) := by
  unfold NoticeEntry.frameSent
  split
  · exact ⟨timerNear_some (near_millis _ _), h.2⟩
  · exact h

theorem entryNear_claimed (e : NoticeEntry) (l : List ClaimItem) (limit : Half) : EntryNear now (e.claimed l now limit) := by
  refine ⟨timerNear_none _, ?_⟩
  unfold NoticeEntry.claimed
  dsimp only
  split
  · exact timerNear_none _
  · exact timerNear_some (near_millis _ _)

theorem noticePayload_length (e : NoticeEntry) (again : Bool) : (noticePayload e again).length ≤ 60 := by
  simp [noticePayload, be32_length]

theorem overduePayload_length (n : Byte) (c : ClassNo) (t : Time) : (overduePayload n c t).length ≤ 60 := by
  simp [overduePayload, be32_length]

end Entry

end Records

end Sys2Proof.Proofs

/-! ## O14: reset values and timers -/

namespace Sys2Proof.Proofs

open Sys2Proof Sys2Proof.Machine Sys2Proof.Laws

/-! ### The components that an operation leaves -/

section Same

variable {s t : State} (hs : Timely s)
include hs

theorem sourceNear_of_same (h : t.sources = s.sources) (i : SourceNo) : SourceNear s.time (t.src i) := src_congr h i ▸ hs.sources i

theorem classNear_of_same (h : t.classes = s.classes) (c : ClassNo) : ClassNear s.time (t.klass c) := klass_congr h c ▸ hs.classes c

theorem lineNear_of_same (h : t.lines = s.lines) (g : LineNo) : TimerNear s.time (t.line g).guardTimer := line_congr h g ▸ hs.lines g

/-- One class changes. -/
theorem classNear_of_one {c : ClassNo} {r : ClassRecord} (hclass : ∀ d, t.klass d = if d = c then r else s.klass d)
    (hr : ClassNear s.time r) (d : ClassNo) : ClassNear s.time (t.klass d) := by
  rw [hclass]
  split
  · exact hr
  · exact hs.classes d

/-- One source changes. -/
theorem sourceNear_of_one {i : SourceNo} {r : SourceRecord} (hsource : ∀ j, t.src j = if j = i then r else s.src j)
    (hr : SourceNear s.time r) (j : SourceNo) : SourceNear s.time (t.src j) := by
  rw [hsource]
  split
  · exact hr
  · exact hs.sources j

/-- One entry changes. -/
theorem entryNear_of_updated {n : Byte} {f : NoticeEntry → NoticeEntry} (hentries : t.dispatcher.entries = updated n f s.dispatcher.entries)
    (hf : ∀ e, EntryNear s.time e → EntryNear s.time (f e)) : ∀ e ∈ t.dispatcher.entries, EntryNear s.time e := by
  rw [hentries]
  intro y hy
  obtain ⟨e, he, -, rfl⟩ | ⟨hy, -⟩ := mem_updated.mp hy
  · exact hf e (hs.entries e he)
  · exact hs.entries y hy

/-- A frame in transmission that loses its entry ends as it would have (R68). -/
theorem linkNear_detach (gone : Byte → Bool) : LinkNear s.time { s.link with tx := s.link.tx.map fun x => x.detach gone } := by
  have hends : (s.link.tx.map fun x => x.detach gone).map (·.ends) = s.link.tx.map (·.ends) := by
    rw [Option.map_map]
    exact Option.map_congr fun x _ => detach_ends x gone
  exact ⟨hs.link.1, hs.link.2.1, hends ▸ hs.link.2.2⟩

/-- The transmitter begins with a frame that fits (R128, R164). -/
theorem linkNear_send {l : Link} {f : Frame} {o : Origin} (hl : l.rxTimer = s.link.rxTimer ∧ l.rxWait = s.link.rxWait)
    (hf : f.payload.length ≤ 60) :
    LinkNear s.time { l with tx := some { frame := f, origin := o, ends := s.time + frameMicros l.rate f.payload.length } } :=
  ⟨hl.1 ▸ hs.link.1, hl.2 ▸ hs.link.2.1, timerNear_some (near_frameMicros _ _ hf)⟩

theorem linkNear_idle {l : Link} (hl : l.rxTimer = s.link.rxTimer ∧ l.rxWait = s.link.rxWait) : LinkNear s.time { l with tx := none } :=
  ⟨hl.1 ▸ hs.link.1, hl.2 ▸ hs.link.2.1, timerNear_none _⟩

/-- The timer of a source survives every event on it but the end of its qualification (R4, R5). -/
theorem sourceNear_rawChange (i : SourceNo) (level : Level) (j : SourceNo) : SourceNear s.time ((s.rawChange i level).src j) := by
  have hone : ∀ r, SourceNear s.time r → SourceNear s.time ((s.setSrc i r).src j) := fun r hr =>
    sourceNear_of_one hs (fun j => setSrc_src s i j r) hr j
  have hseen : SourceNear s.time { s.src i with raw := level } := hs.sources i
  unfold State.rawChange
  dsimp only
  split
  · exact hs.sources j
  · split
    · exact hone _ hseen
    · split
      · split
        · exact hone _ (sourceNear_stopped { s.src i with raw := level })
        · exact hone _ hseen
      · split
        · exact hone _ hseen
        · split
          · rw [transition_src]
            split
            · refine sourceNear_of_timer hseen ?_
              rw [moved_timer, setSrc_src_self]
            · exact hone _ hseen
          · exact hone _ (timerNear_some (near_qualLength _ _))

theorem sourceNear_qualified (i : SourceNo) (level : Level) (j : SourceNo) :
    SourceNear s.time (((s.setSrc i { s.src i with timer := none }).transition i level).src j) := by
  rw [transition_src]
  split
  · refine sourceNear_of_timer (sourceNear_stopped (s.src i)) ?_
    rw [moved_timer, setSrc_src_self]
  · exact sourceNear_of_one hs (fun j => setSrc_src s i j _) (sourceNear_stopped (s.src i)) j

theorem sourceNear_force (i : SourceNo) (a : ForceAction) (j : SourceNo) : SourceNear s.time ((s.force i a).src j) := by
  refine sourceNear_of_one hs (fun j => force_src s i a j) (sourceNear_of_timer (hs.sources i) ?_) j
  cases a with
  | pulse => rfl
  | on | off => exact derived_timer _ _

theorem sourceNear_claim (e : NoticeEntry) (j : SourceNo) : SourceNear s.time ((claimEffect e s).src j) := by
  rw [claimEffect_src]
  refine sourceNear_of_timer (hs.sources j) ?_
  split
  · unfold SourceRecord.claimed
    split <;> rfl
  · rfl

/-- A request to the Grant Line Unit starts guards alone (R91, R92). -/
theorem lineNear_takeAsk (a : GrantAsk) (g : LineNo) : TimerNear s.time ((s.takeAsk a).line g).guardTimer :=
  takeAsk_line_keeps (P := fun _ r => TimerNear s.time r.guardTimer) a hs.lines
    (fun _ n _ r _ _ h => grant_guardTimer r n ▸ h) (fun _ _ _ _ _ h => timerNear_finish h) g

theorem lineNear_takeWithdrawal (i : SourceNo) (g : LineNo) : TimerNear s.time ((s.takeWithdrawal i).line g).guardTimer := by
  obtain h | ⟨-, h⟩ := takeWithdrawal_line s i g
  · exact h ▸ hs.lines g
  · exact h ▸ timerNear_finish (hs.lines g)

/-- The class, source and line records change, and the dispatcher with its frames. -/
theorem timely_of_parts (htime : t.time = s.time) (hsources : ∀ i, SourceNear s.time (t.src i)) (hclasses : ∀ c, ClassNear s.time (t.klass c))
    (hlines : ∀ g, TimerNear s.time (t.line g).guardTimer) (hentries : ∀ e ∈ t.dispatcher.entries, EntryNear s.time e)
    (hframes : ∀ f ∈ t.dispatcher.sendList, f.payload.length ≤ 60) (hlink : LinkNear s.time t.link)
    (hanswers : t.link.answers = s.link.answers) (hstore : t.store = s.store) : Timely t where
  sources := htime ▸ hsources
  classes := htime ▸ hclasses
  entries := htime ▸ hentries
  lines := htime ▸ hlines
  link := htime ▸ hlink
  operation := htime ▸ hstore ▸ hs.operation
  answers := hanswers ▸ hs.answers
  frames := hframes

/-- The class, source and line records change alone. -/
theorem timely_of_records (htime : t.time = s.time) (hsources : ∀ i, SourceNear s.time (t.src i))
    (hclasses : ∀ c, ClassNear s.time (t.klass c)) (hlines : ∀ g, TimerNear s.time (t.line g).guardTimer)
    (hdispatcher : t.dispatcher = s.dispatcher) (hlink : t.link = s.link) (hstore : t.store = s.store) : Timely t :=
  timely_of_parts hs htime hsources hclasses hlines (hdispatcher ▸ hs.entries) (hdispatcher ▸ hs.frames) (hlink ▸ hs.link) (by rw [hlink])
    hstore

theorem timely_takeAsk (a : GrantAsk) : Timely (s.takeAsk a) :=
  timely_of_records hs (by simp) (sourceNear_of_same hs (by simp)) (classNear_of_same hs (by simp)) (lineNear_takeAsk hs a) (by simp)
    (by simp) (by simp)

end Same

theorem timely_takeAsks {s : State} (hs : Timely s) : Timely s.takeAsks :=
  takeAsks_keeps_of_pop (P := Timely) (fun s a _ hs _ => timely_takeAsk (s := s.popAsk) { hs with } a) hs

theorem timely_endGrants {s : State} (hs : Timely s) : Timely s.endGrants := by
  unfold State.endGrants
  exact timely_takeAsks { hs with }

/-! ### Every operation -/

theorem kept_timely : Kept fun _ => Timely where
  free _ _ _ _ _ hs := { hs with }
  straps _ _ hs := { hs with link := hs.link }
  power _ _ hs := { hs with }
  waitQuiet q n hs _ _ := { hs with link := ⟨hs.link.1, timerNear_some (near_quietMicros _ _ _ _), hs.link.2.2⟩ }
  discard hs := { hs with link := ⟨timerNear_none _, hs.link.2⟩ }
  enterWindow _ hs _ := { hs with link := ⟨timerNear_none _, hs.link.2⟩ }
  frameFails hs := { hs with link := ⟨timerNear_none _, hs.link.2⟩ }
  receiveTo _ hs _ _ _ := { hs with link := ⟨timerNear_some (near_gap _), hs.link.2⟩ }
  enqueue _ _ hs hf := { hs with
    link := hs.link
    answers := List.forall_mem_append.mpr ⟨hs.answers, List.forall_mem_singleton.mpr hf⟩ }
  sendStart hs _ := { hs with link := linkNear_send hs ⟨rfl, rfl⟩ (by simp [startPayload, be32_length]) }
  sendAnswer {s a rest} hs _ hanswers := by
    obtain ⟨ha, hrest⟩ := List.forall_mem_cons.mp (hanswers ▸ hs.answers)
    exact { hs with link := linkNear_send hs ⟨rfl, rfl⟩ (by simp [Answer.frame]; omega), answers := hrest }
  sendNotice {s f} hs _ hf := { hs with
    link := linkNear_send hs ⟨rfl, rfl⟩ (hs.frames f hf)
    frames := fun g hg => hs.frames g (List.mem_of_mem_erase hg) }
  startSent hs _ _ := { hs with link := linkNear_idle hs ⟨rfl, rfl⟩ }
  answerSent hs _ _ := { hs with link := linkNear_idle hs ⟨rfl, rfl⟩ }
  noticeSent {s _ n} hs _ _ := { hs with
    link := linkNear_idle hs ⟨rfl, rfl⟩
    entries := entryNear_of_updated (s := s) (n := n) (f := fun e => e.frameSent s.time s.session.answerTimeout) hs rfl
      fun _ h => entryNear_frameSent h _ }
  otherSent hs _ _ := { hs with link := linkNear_idle hs ⟨rfl, rfl⟩ }
  rawChange i l hs := timely_of_records hs (by simp) (sourceNear_rawChange hs i l) (classNear_of_same hs (by simp))
    (lineNear_of_same hs (by simp)) (by simp) (by simp) (by simp)
  qualified {_ i t} hs _ := timely_of_records hs (by simp) (sourceNear_qualified hs i t.target) (classNear_of_same hs (by simp))
    (lineNear_of_same hs (by simp)) (by simp) (by simp) (by simp)
  force {_ _ i a} hs _ _ := timely_of_records hs (by simp) (sourceNear_force hs i a) (classNear_of_same hs (by simp))
    (lineNear_of_same hs (by simp)) (by simp) (by simp) (by simp)
  steerTo {_ s i e} hs _ _ _ := by
    refine timely_of_records hs (by simp) (fun j => ?_) (fun c => ?_) (lineNear_of_same hs (by simp)) (by simp) (by simp) (by simp)
    · rw [steerTo_src]
      split
      · rename_i h
        exact sourceNear_of_timer (hs.sources i) rfl
      · exact hs.sources j
    · rw [steerTo_klass]
      split
      · exact classNear_reevaluate (hs.classes c)
      · exact hs.classes c
  takeReport {s r} hs _ := by
    refine timely_of_records hs (by simp) (sourceNear_of_same hs (by simp))
      (classNear_of_one (c := r.cls) hs (fun d => (setKlass_klass _ r.cls d _).trans rfl) ?_) (lineNear_of_same hs (by simp)) (by simp)
      (by simp) (by simp)
    split
    · exact classNear_reportOn (hs.classes r.cls) _
    · exact classNear_reportOff (hs.classes r.cls) _
  deadline {s c} hs _ := { hs with
    classes := classNear_of_one (s := s) hs (fun d => setKlass_klass s c d _) ⟨timerNear_none _, (hs.classes c).2⟩ }
  hold {s c} hs _ := { hs with
    classes := classNear_of_one (s := s) hs (fun d => setKlass_klass s c d _) (classNear_settleContinued (hs.classes c)) }
  withSettings {_ s c} x hs _ := { hs with
    classes := classNear_of_one (s := s) hs (fun d => setKlass_klass s c d _) (classNear_withSettings (hs.classes c) x) }
  setMasks {_ s} m b hs := by
    refine timely_of_records hs (by simp) (sourceNear_of_same hs (by simp)) (fun c => ?_) (lineNear_of_same hs (by simp)) (by simp)
      (by simp) (by simp)
    have hclass : (s.setMasks m b).klass c
        = if m.getLsbD c.val then { s.klass c with settings := { (s.klass c).settings with masked := b } } else s.klass c :=
      klass_ofFn s _ c
    rw [hclass]
    split <;> exact hs.classes c
  alarmOff hs _ := { hs with }
  createNotice {s c} hs _ := timely_of_parts hs (by simp) (sourceNear_of_same hs (by simp))
    (classNear_of_one hs (createNotice_klass s c) (hs.classes c)) (lineNear_of_same hs (by simp))
    (List.forall_mem_append.mpr ⟨hs.entries, List.forall_mem_singleton.mpr ⟨timerNear_none _, timerNear_none _⟩⟩)
    (List.forall_mem_append.mpr ⟨hs.frames, List.forall_mem_singleton.mpr (noticePayload_length _ _)⟩) (by simpa using hs.link) (by simp)
    (by simp)
  claim {_ s e} hs _ _ _ := timely_of_parts hs (by simp) (sourceNear_claim hs e)
    (classNear_of_one hs (claimEffect_klass e s) ⟨timerNear_none _, (hs.classes e.cls).2⟩) (lineNear_of_same hs (by simp))
    (entryNear_of_updated hs (claimEffect_entries e s) fun x _ => entryNear_claimed x _ _)
    (fun f hf => hs.frames f (List.mem_filter.mp hf).1) (by simpa using hs.link) (by simp) (by simp)
  release {_ s e} hs _ _ _ := timely_of_parts hs (by simp) (sourceNear_of_same hs (by simp))
    (classNear_of_one hs (releaseEffect_klass e s) (classNear_settleFresh (hs.classes e.cls))) (lineNear_of_same hs (by simp))
    (releaseEffect_dispatcher e s ▸ fun x hx => hs.entries x (List.mem_filter.mp hx).1)
    (releaseEffect_dispatcher e s ▸ fun f hf => hs.frames f (List.mem_filter.mp hf).1) (releaseEffect_link e s ▸ linkNear_detach hs _)
    (by rw [releaseEffect_link]) (by simp)
  returned {_ s e} h hs _ _ _ := timely_of_parts hs (by simp) (sourceNear_of_same hs (by simp))
    (classNear_of_one hs (returnEffect_klass h e s) (classNear_returned (hs.classes e.cls) h)) (lineNear_of_same hs (by simp))
    (fun x hx => hs.entries x (List.mem_filter.mp hx).1) (fun f hf => hs.frames f (List.mem_filter.mp hf).1)
    (returnEffect_link h e s ▸ linkNear_detach hs _) (by rw [returnEffect_link]) (by simp)
  repeated {s e} hs _ _ _ := { hs with
    entries := entryNear_of_updated (s := s) (n := e.number) (f := fun x => { x with answerTimer := none }) hs rfl
      fun _ h => ⟨timerNear_none _, h.2⟩
    frames := List.forall_mem_append.mpr ⟨hs.frames, List.forall_mem_singleton.mpr (noticePayload_length _ _)⟩ }
  exhausted {s e} hs _ _ _ := { hs with
    entries := entryNear_of_updated (s := s) (n := e.number) (f := fun x => { x with answerTimer := none }) hs rfl
      fun _ h => ⟨timerNear_none _, h.2⟩ }
  expired {s e} hs _ _ := timely_of_parts hs (by simp) (sourceNear_of_same hs (by simp))
    (classNear_of_one hs (expireEffect_klass e s) (hs.classes e.cls)) (lineNear_of_same hs (by simp))
    (entryNear_of_updated hs (expireEffect_entries e s) fun _ h => ⟨h.1, timerNear_none _⟩)
    (List.forall_mem_append.mpr ⟨hs.frames, List.forall_mem_singleton.mpr (overduePayload_length _ _ _)⟩) (by simpa using hs.link)
    (by simp) (by simp)
  takeAsk {_ s a _} hs _ := timely_takeAsk (s := s.popAsk) { hs with } a
  takeWithdrawal {s i} hs _ := timely_of_records hs (by simp) (sourceNear_of_same hs (by simp)) (classNear_of_same hs (by simp))
    (lineNear_takeWithdrawal (s := { s with flight := { s.flight with withdrawals := s.flight.withdrawals.erase i } }) { hs with } i)
    (by simp) (by simp) (by simp)
  guardEnds {s g} hs _ := { hs with
    lines := fun h => by
      rw [setLine_line]
      split
      · exact guardEnds_guardTimer (s.line g) ▸ timerNear_none _
      · exact hs.lines h }
  repair {_ s g p} hs _ _ _ := { hs with
    lines := fun h => by
      rw [setLine_line]
      split
      · exact repair_guardTimer (s.line g) p ▸ hs.lines g
      · exact hs.lines h }
  openWith hs _ _ _ := { hs with }
  teardown {_ s} x k o n hs _ := timely_of_parts hs (by simp) (sourceNear_of_same hs (by simp))
    (fun c => teardown_klass s x k o n c ▸ classNear_tornDown (hs.classes c))
    (fun g => by
      have hended := (timely_endGrants hs).lines g
      rw [line_congr (teardown_lines s x k o n)]
      simpa using hended)
    nofun nofun (teardown_link s x k o n ▸ linkNear_detach hs _) (by simp) (by simp)
  beginSave hs _ := { hs with operation := timerNear_some (near_saveLength _ _) }
  saved hs _ := { hs with operation := timerNear_none _ }
  beginSetBoot _ hs _ := { hs with operation := timerNear_some (near_designationLength _ _) }
  bootSet hs _ := { hs with operation := timerNear_none _ }
  load {_ s _ _ p} hs _ _ _ := timely_of_records hs (by simp)
    (fun i => by
      have hsources : (loadEffect p s).sources = (s.loadTables p).sources := by simp [loadEffect]
      rw [src_congr hsources, loadTables_src]
      exact sourceNear_of_timer (hs.sources i) rfl)
    (fun c => loadEffect_klass p s c ▸ classNear_loaded _ _)
    (fun g => loadEffect_line s p g ▸ timerNear_none _) (by simp) (by simp) (by simp)

/-! ### Time, resets and start-up -/

/-- With no event due, no timer of the part has reached its expiry, but the wait for RXD high, which ends by itself (log 5, 36). -/
theorem not_due_of_dueEvent {s : State} (hrunning : s.power.inReset = false) (h : s.dueEvent = none) :
    due s.time (s.link.tx.map (·.ends)) = false ∧ due s.time s.link.rxTimer = false
    ∧ (∀ i, due s.time ((s.src i).timer.map (·.expiry)) = false) ∧ (∀ g, due s.time (s.line g).guardTimer = false)
    ∧ (∀ c, due s.time (s.klass c).deadlineTimer = false) ∧ (∀ c, due s.time (s.klass c).holdTimer = false)
    ∧ (∀ e ∈ s.dispatcher.entries, due s.time e.answerTimer = false) ∧ (∀ e ∈ s.dispatcher.entries, due s.time e.serviceTimer = false)
    ∧ due s.time s.store.operation.ends? = false := by
  have hexpiry : s.dueExpiry = none := by
    rw [State.dueEvent, hrunning, if_neg Bool.false_ne_true] at h
    exact ((Option.orElse_eq_none _ _).mp h).2
  unfold State.dueExpiry at hexpiry
  split at hexpiry
  · cases hexpiry
  · split at hexpiry
    · cases hexpiry
    · simp only [Option.orElse_eq_none, Option.map_eq_none_iff, List.find?_eq_none, mem_allSources, mem_allLines,
        mem_allClasses, forall_const, Bool.not_eq_true] at hexpiry
      obtain ⟨hsources, hlines, hdeadlines, hholds, hanswers, hservices, hoperation⟩ := hexpiry
      refine ⟨Bool.eq_false_iff.mpr ‹_›, Bool.eq_false_iff.mpr ‹_›, hsources, hlines, hdeadlines, hholds, hanswers, hservices, ?_⟩
      cases hop : s.store.operation with
      | none => rfl
      | save | setBoot => simpa [hop, due, Operation.ends?] using hoperation

theorem timerNear_tick {now : Time} {x : Option Time} (h : TimerNear now x) (hnot : due now x = false) : TimerNear (now + 1) x := by
  rintro t rfl
  exact near_tick (h t rfl) hnot

theorem timely_tick {s : State} (hs : Timely s) (hevent : s.dueEvent = none) : Timely s.tick := by
  by_cases hreset : s.power.inReset = true
  · rwa [State.tick, if_pos hreset]
  · obtain ⟨htx, hrx, hsources, hlines, hdeadlines, hholds, hanswers, hservices, hoperation⟩ :=
      not_due_of_dueEvent (Bool.eq_false_iff.mpr hreset) hevent
    have hwait : TimerNear (s.time + 1) ((s.link.waited (s.time + 1)).rxWait.map (·.ends)) := by
      unfold Link.waited
      split
      · exact timerNear_none _
      · rename_i hnot
        intro t ht
        rw [ht] at hnot
        exact near_of_not_reached (Bool.eq_false_iff.mpr hnot)
    have hlink : (s.link.waited (s.time + 1)).rxTimer = s.link.rxTimer ∧ (s.link.waited (s.time + 1)).tx = s.link.tx
        ∧ (s.link.waited (s.time + 1)).answers = s.link.answers := by
      unfold Link.waited
      split <;> exact ⟨rfl, rfl, rfl⟩
    obtain ⟨hrxTimer, htx', hanswers'⟩ := hlink
    rw [State.tick, if_neg hreset]
    exact {
      sources := fun i => timerNear_tick (hs.sources i) (hsources i)
      classes := fun c => ⟨timerNear_tick (hs.classes c).1 (hdeadlines c), timerNear_tick (hs.classes c).2 (hholds c)⟩
      entries := fun e he => ⟨timerNear_tick (hs.entries e he).1 (hanswers e he), timerNear_tick (hs.entries e he).2 (hservices e he)⟩
      lines := fun g => timerNear_tick (hs.lines g) (hlines g)
      link := ⟨hrxTimer ▸ timerNear_tick hs.link.1 hrx, hwait, htx' ▸ timerNear_tick hs.link.2.2 htx⟩
      operation := timerNear_tick hs.operation hoperation
      answers := hanswers' ▸ hs.answers
      frames := hs.frames }

/-- In reset no timer runs and no frame waits (R3, R57, R131). -/
theorem timely_of_atReset {s : State} (hs : AtReset s) : Timely s := by
  obtain ⟨-, -, -, hsources, hclasses, hdispatcher, hlines, hlink, -, hoperation, -⟩ := hs
  refine ⟨fun i => ?_, fun c => ?_, ?_, fun g => ?_, ?_, ?_, ?_, ?_⟩
  · unfold SourceNear
    rw [(hsources i).1]
    exact timerNear_none _
  · rw [hclasses]
    exact ⟨timerNear_none _, timerNear_none _⟩
  · rw [hdispatcher]
    exact nofun
  · rw [hlines]
    exact timerNear_none _
  · rw [hlink]
    exact ⟨timerNear_none _, timerNear_none _, timerNear_none _⟩
  · rw [hoperation]
    exact timerNear_none _
  · rw [hlink]
    exact nofun
  · rw [hdispatcher]
    exact nofun

/-- The link as start-up leaves it: at the rate of the straps, the receiver enabled and waiting, START begun (R115, R116, R162). -/
theorem startUp_link {s : State} (hidle : s.link.tx = none) : s.startUp.link =
    { s.leaveReset.link with
      rxEnabled := true, startPending := true
      rxWait := some { quiet := .enabled, ends := 0 + quietMicros s.leaveReset.link.rate .enabled 0 }
      tx := some
        { frame := { kind := 0x62, tag := 0, payload := startPayload s.power.cause s.store.bootChoice.1 s.startUp.journal.next }
          origin := .start, ends := 0 + frameMicros s.leaveReset.link.rate 6 } } := by
  simp [State.startUp, State.transmit, State.enableReceiver, State.waitQuiet, State.leaveReset, State.journalStartUp, hidle,
    State.sendStart, State.send, startPayload, be32]

/-- Start-up leaves a wait for RXD high, the deadlines of the classes that it finds contributed to, and START (R160). -/
theorem timely_startUp {s : State} (hs : AtReset s) : Timely s.startUp := by
  have hreset := timely_of_atReset hs
  obtain ⟨-, htime, -, -, -, -, -, hlink, -, hoperation, -⟩ := hs
  have htime' : s.startUp.time = s.time := by
    simp [State.startUp, State.enableReceiver, State.journalStartUp, State.leaveReset, htime]
  have hidle : s.link.tx = none := by rw [hlink]; rfl
  have hlink' : LinkNear s.startUp.time s.startUp.link ∧ s.startUp.link.answers = s.link.answers
      ∧ s.startUp.dispatcher = s.dispatcher := by
    refine ⟨?_, ?_, ?_⟩
    · rw [startUp_link hidle, htime', htime]
      refine ⟨?_, timerNear_some (near_quietMicros _ _ _ _), timerNear_some (near_frameMicros _ _ (by decide))⟩
      rw [show s.leaveReset.link.rxTimer = s.link.rxTimer from rfl, hlink]
      exact timerNear_none _
    · rw [startUp_link hidle]
      rfl
    · rw [startUp_eq, State.transmit]
      simp [State.enableReceiver, State.waitQuiet, State.leaveReset, State.journalStartUp, hidle]
  obtain ⟨hlinkNear, hanswers, hdispatcher⟩ := hlink'
  refine ⟨fun i => ?_, fun c => ?_, ?_, fun g => ?_, hlinkNear, ?_, hanswers ▸ hreset.answers, hdispatcher ▸ hreset.frames⟩
  · have hsrc : (s.startUp.src i).timer = none := by
      rw [State.src, startUp_sources]
      simp [SourceRecord.cleared, resetSource]
    unfold SourceNear
    rw [hsrc]
    exact timerNear_none _
  · obtain ⟨found, hclass⟩ := startUp_klass s c
    rw [hclass, htime', htime]
    exact classNear_loaded _ _
  · rw [hdispatcher, htime']
    exact hreset.entries
  · rw [startUp_line]
    exact timerNear_none _
  · have hstore : s.startUp.store.operation = .none := by
      rw [startUp_store]
      exact hoperation
    rw [hstore]
    exact timerNear_none _

/-- Settles O14: `exec_of_atReset` keeps the reset values, `kept_timely` each timer near its start, and time passes only while none has
expired. -/
theorem resetAndTimersLawsKeptByEveryStep : Obligations.ResetAndTimersLawsKeptByEveryStep := by
  intro s t hreset hstep
  have hreset' := resetLaw_step hreset hstep
  refine ⟨hreset', fun htimers hframes => timely_iff.mp ?_⟩
  have hs : Timely s := timely_iff.mpr ⟨htimers, hframes⟩
  obtain ht | ⟨q, ht | ⟨hread, rfl⟩⟩ := kept_timely.step_cases hs (timely_tick hs) hstep
  · exact ht
  · exact timely_of_atReset (atReset_beginsReset ht)
  · exact timely_startUp (atReset_queue (resetLaw_iff.mp hreset (inReset_of_storeRead hread)) q)

end Sys2Proof.Proofs

/-! ## The step, the queue and the counter

A step is the front command or the part's own event; a command leaves the queue alone, and the counter too unless a reset begins or
ends. -/

namespace Sys2Proof.Proofs

open Sys2Proof Sys2Proof.Machine Sys2Proof.Laws

/-- Settles O1: the queue's front is what `step` reads. -/
theorem stepTakesTheFrontCommand : Obligations.StepTakesTheFrontCommand := by
  intro i rest s hpending
  simp only [step, hpending]

theorem dueEvent_of_inReset {s : State} (h : s.power.inReset = true) : s.dueEvent = none := if_pos h

theorem waited_eq (l : Link) (now : Time) :
    l.waited now = { l with rxWait := if l.rxWait.any (fun w => reached now w.ends) then none else l.rxWait } := by
  obtain ⟨rateB, rateA, rate, rxEnabled, rxWait, -⟩ := l
  cases rxWait with
  | none => rfl
  | some w =>
    simp only [Link.waited, Option.map_some, due, Option.any_some]
    by_cases hends : reached now w.ends = true <;> simp [hends]

/-- Settles O2: with no command waiting the part's own event is taken, or the clock ticks, which in reset is nothing. -/
theorem idleStepTakesADueEventOrOneMicrosecond : Obligations.IdleStepTakesADueEventOrOneMicrosecond := by
  intro s hpending
  have hstep : step s = idle s := by simp only [step, hpending]
  rw [hstep]
  refine ⟨fun i hdue => ?event, fun hdue hreset => ?tick, fun hreset => ?inReset⟩
  case event => simp only [idle, hdue]
  case tick => simp only [idle, hdue, State.tick, hreset, Bool.false_eq_true, if_false, waited_eq]
  case inReset => simp only [idle, dueEvent_of_inReset hreset, State.tick, hreset, if_true]

/-! ### What a command leaves of the queue and the counter -/

/-- The queue and the counter are as they were. -/
def Steady (s t : State) : Prop := t.pending = s.pending ∧ t.time = s.time

theorem Steady.refl (s : State) : Steady s s := ⟨rfl, rfl⟩

theorem Steady.trans {s t u : State} (h : Steady s t) (h' : Steady t u) : Steady s u :=
  ⟨h'.1.trans h.1, h'.2.trans h.2⟩

theorem steady_takeOrder (s : State) (kind tag : Byte) (payload : List Byte) {body : Order → State → State}
    (hbody : ∀ o t, Steady t (body o t)) : Steady s (s.takeOrder kind tag payload body) := by
  obtain ⟨-, ht⟩ | ⟨w, -, -, ht⟩ | ⟨-, -, -, ht⟩ | ⟨-, -, -, ht⟩ := takeOrder_cases s kind tag payload body
  all_goals rw [ht]
  case inl => exact .refl s
  case inr.inl => simp [Steady]
  case inr.inr.inl => simp [Steady]
  case inr.inr.inr => exact Steady.trans (by simp [Steady]) (hbody _ _)

theorem steady_reply (s : State) (o : Order) (r : Result) (fields : List Byte) : Steady s (s.reply o r fields) := by simp [Steady]

theorem steady_replyMalformed (s : State) (o : Order) (payload : List Byte) : Steady s (s.replyMalformed o payload) :=
  steady_reply ..

theorem steady_settleOrder (s : State) (o : Order) (n : Byte) (admits : EntryState → Bool) {take : NoticeEntry → State → State}
    (htake : ∀ e t, Steady t (take e t)) : Steady s (settleOrder o n admits take s) := by
  have hloss : Steady s s.takeLoss := by simp [Steady]
  refine hloss.trans ?_
  unfold settleOrder
  dsimp only
  split
  · split
    · split
      · exact htake _ _
      · exact steady_reply ..
    · exact steady_reply ..
  · exact steady_reply ..

theorem steady_openOrder (s : State) (o : Order) (p : Option SessionParams) : Steady s (openOrder o p s) := by
  unfold openOrder
  dsimp only
  split
  · simp [Steady]
  · cases p <;> simp [Steady]

theorem steady_closeOrder (s : State) (o : Order) : Steady s (closeOrder o s) := by
  unfold closeOrder
  dsimp only
  split <;> simp [Steady]

theorem steady_claimTaken (s : State) (o : Order) (e : NoticeEntry) : Steady s (claimTaken o e s) := by simp [Steady, claimTaken]

theorem steady_releaseTaken (s : State) (o : Order) (e : NoticeEntry) : Steady s (releaseTaken o e s) := by
  rw [releaseTaken_eq_releaseEffect]
  simp [Steady]

theorem steady_returnTaken (s : State) (o : Order) (hold : Half) (e : NoticeEntry) : Steady s (returnTaken o hold e s) := by
  simp [Steady, returnTaken]

theorem steady_setSteerOrder (s : State) (o : Order) (b m c q j : Byte) : Steady s (setSteerOrder o b m c q j s) := by
  unfold setSteerOrder
  split
  · split
    · exact steady_reply ..
    · split
      · exact steady_reply ..
      · simp [Steady]
  all_goals exact steady_reply ..

theorem steady_setClassOrder (s : State) (o : Order) (b : Byte) (x : Option ClassSettings) : Steady s (setClassOrder o b x s) := by
  unfold setClassOrder
  split
  · split <;> simp [Steady]
  all_goals exact steady_reply ..

theorem steady_maskOrder (s : State) (o : Order) (selected : Half) (action : Byte) : Steady s (maskOrder o selected action s) := by
  unfold maskOrder
  dsimp only
  split
  · simp [Steady]
  · split <;> simp [Steady]

theorem steady_clearAlarmOrder (s : State) (o : Order) : Steady s (clearAlarmOrder o s) := by
  unfold clearAlarmOrder
  dsimp only
  split
  · exact steady_reply ..
  · split <;> simp [Steady]

theorem steady_pairGrantOrder (s : State) (o : Order) (b : Byte) (p : Option Pairing) : Steady s (pairGrantOrder o b p s) := by
  unfold pairGrantOrder
  dsimp only
  split
  · split
    · simp [Steady]
    · split <;> simp [Steady]
  all_goals simp [Steady]

theorem steady_forceOrder (s : State) (o : Order) (b a : Byte) : Steady s (forceOrder o b a s) := by
  unfold forceOrder
  split
  · split
    · exact steady_reply ..
    · split <;> simp [Steady]
  · exact steady_reply ..

theorem steady_saveOrder (s : State) (o : Order) (b : Byte) : Steady s (saveOrder o b s) := by
  unfold saveOrder
  split
  · split <;> simp [Steady]
  · exact steady_reply ..

theorem steady_loadOrder (s : State) (o : Order) (b : Byte) : Steady s (loadOrder o b s) := by
  unfold loadOrder
  split
  · exact steady_reply ..
  · split
    · exact steady_reply ..
    · split
      · exact steady_reply ..
      · exact steady_reply ..
      · split <;> simp [Steady]

theorem steady_setBootOrder (s : State) (o : Order) (b : Byte) : Steady s (setBootOrder o b s) := by
  unfold setBootOrder
  split
  · split
    · exact steady_reply ..
    · exact .refl s
  · exact steady_reply ..

theorem steady_frameArrival (kind tag : Byte) (payload : List Byte) (s : State) :
    ∃ t, frameArrival kind tag payload s = .next t ∧ Steady s t := by
  unfold frameArrival
  split
  all_goals refine ⟨_, rfl, steady_takeOrder _ _ _ _ fun o u => ?_⟩
  case h_24 => exact steady_reply ..
  all_goals
    split
    rotate_left
    · exact steady_replyMalformed ..
  · exact steady_reply ..
  · exact steady_reply ..
  · exact steady_openOrder ..
  · exact steady_closeOrder ..
  · exact steady_settleOrder _ _ _ _ fun e v => steady_claimTaken v _ e
  · exact steady_settleOrder _ _ _ _ fun e v => steady_releaseTaken v _ e
  · exact steady_settleOrder _ _ _ _ fun e v => steady_returnTaken v _ _ e
  · exact steady_setSteerOrder ..
  · unfold getSteerOrder
    split <;> exact steady_reply ..
  · exact steady_setClassOrder ..
  · unfold getClassOrder
    split <;> exact steady_reply ..
  · exact steady_maskOrder ..
  · exact steady_clearAlarmOrder ..
  · exact steady_pairGrantOrder ..
  · exact steady_reply ..
  · exact steady_forceOrder ..
  · exact steady_reply ..
  · unfold trimOrder
    split
    · exact steady_reply ..
    · exact Steady.trans (.refl _) (steady_reply ..)
  · exact steady_saveOrder ..
  · exact steady_loadOrder ..
  · exact steady_setBootOrder ..
  · exact steady_reply ..
  · exact steady_reply ..

theorem steady_takeByte (byte : Byte) (s : State) : ∃ t, takeByte byte s = .next t ∧ Steady s t := by
  unfold takeByte
  split
  case h_1 | h_2 =>
    refine ⟨_, rfl, ?_⟩
    split <;> simp [Steady]
  case h_3 | h_4 | h_5 | h_6 => exact ⟨_, rfl, by simp [Steady]⟩
  case h_7 =>
    split
    · exact steady_frameArrival ..
    · exact ⟨_, rfl, by simp [Steady]⟩

theorem steady_byteReceived (byte : Byte) (s : State) : ∃ t, execByteReceived byte s = .next t ∧ Steady s t := by
  unfold execByteReceived
  split
  · split
    · exact ⟨_, rfl, by simp [Steady]⟩
    · exact steady_takeByte byte s
  · exact ⟨s, rfl, .refl s⟩

theorem steady_frameFailure (cause : WireFailure) (s : State) : ∃ t, execFrameFailure cause s = .next t ∧ Steady s t := by
  unfold execFrameFailure
  split
  · split
    all_goals
      refine ⟨_, rfl, ?_⟩
      split <;> simp [Steady]
  · exact ⟨s, rfl, .refl s⟩

theorem steady_rawLevelChange (pin : LevelPin) (l : Level) (s : State) :
    ∃ t, execRawLevelChange pin l s = .next t ∧ Steady s t := by
  cases pin with
  | source i => exact ⟨_, rfl, by simp [Steady]⟩
  | rateB => exact ⟨_, rfl, rfl, rfl⟩
  | rateA => exact ⟨_, rfl, rfl, rfl⟩

/-- A completed transmission hands on to its block, or begins a reset. -/
theorem transmissionCompletion_pending_time (s : State) :
    ∃ t, execTransmissionCompletion s = .next t ∧ t.pending = s.pending ∧ (t.time ≠ s.time → t.time = 0) := by
  unfold execTransmissionCompletion
  split
  · split
    · refine ⟨_, rfl, ?_⟩
      rename_i x _ _
      cases x.origin with
      | start => simp [State.completed]
      | answer o restarts => cases restarts <;> simp [State.completed, State.beginReset]
      | notice n => cases n <;> simp [State.completed]
      | overdue => simp [State.completed]
    · exact ⟨s, rfl, rfl, fun h => absurd rfl h⟩
  · exact ⟨s, rfl, rfl, fun h => absurd rfl h⟩

/-- A row that takes an event where it is due, and otherwise leaves the state. -/
theorem steady_ite {s t : State} (c : Prop) [Decidable c] (h : Steady s t) :
    ∃ u, (if c then .next t else .next s : Host.Outcome State Fault Refusal) = .next u ∧ Steady s u := by
  split
  · exact ⟨t, rfl, h⟩
  · exact ⟨s, rfl, .refl s⟩

theorem steady_qualificationTimerExpiry (i : SourceNo) (s : State) :
    ∃ t, execQualificationTimerExpiry i s = .next t ∧ Steady s t := by
  unfold execQualificationTimerExpiry
  split
  · exact steady_ite _ (by simp [Steady])
  · exact ⟨s, rfl, .refl s⟩

theorem steady_contributionReport (i : SourceNo) (s : State) : ∃ t, execContributionReport i s = .next t ∧ Steady s t := by
  unfold execContributionReport
  split
  · exact ⟨_, rfl, by simp [Steady]⟩
  · exact ⟨s, rfl, .refl s⟩

theorem steady_answerTimerExpiry (n : Byte) (s : State) : ∃ t, execAnswerTimerExpiry n s = .next t ∧ Steady s t := by
  have hloss : Steady s s.takeLoss := by simp [Steady]
  unfold execAnswerTimerExpiry
  dsimp only
  split
  · rename_i e _
    obtain ⟨t, ht, hsteady⟩ := steady_ite (due s.takeLoss.time e.answerTimer) (s := s.takeLoss) (t := s.takeLoss.answerExpired e)
      (by simp [Steady])
    exact ⟨t, ht, hloss.trans hsteady⟩
  · exact ⟨_, rfl, hloss⟩

theorem steady_serviceTimerExpiry (n : Byte) (s : State) : ∃ t, execServiceTimerExpiry n s = .next t ∧ Steady s t := by
  unfold execServiceTimerExpiry
  split
  · exact steady_ite _ (by simp [Steady])
  · exact ⟨s, rfl, .refl s⟩

theorem steady_grantRequest (s : State) : ∃ t, execGrantRequest s = .next t ∧ Steady s t := by
  unfold execGrantRequest
  split
  · exact ⟨_, rfl, by simp [Steady]⟩
  all_goals exact ⟨s, rfl, .refl s⟩

theorem steady_grantEndRequest (s : State) : ∃ t, execGrantEndRequest s = .next t ∧ Steady s t := by
  unfold execGrantEndRequest
  split
  · exact ⟨_, rfl, by simp [Steady]⟩
  all_goals exact ⟨s, rfl, .refl s⟩

theorem steady_journalArrival (s : State) : ∃ t, execJournalArrival s = .next t ∧ Steady s t := by
  unfold execJournalArrival
  split
  · exact ⟨_, rfl, rfl, rfl⟩
  · exact ⟨s, rfl, .refl s⟩

theorem steady_profileSaveCompletion (s : State) : ∃ t, execProfileSaveCompletion s = .next t ∧ Steady s t := by
  unfold execProfileSaveCompletion
  split
  · exact steady_ite _ (by simp [Steady])
  all_goals exact ⟨s, rfl, .refl s⟩

theorem steady_setBootCompletion (s : State) : ∃ t, execSetBootCompletion s = .next t ∧ Steady s t := by
  unfold execSetBootCompletion
  split
  · exact steady_ite _ (by simp [Steady])
  all_goals exact ⟨s, rfl, .refl s⟩

theorem startUp_pending_time (s : State) : s.startUp.pending = s.pending ∧ s.startUp.time = 0 := by
  simp [State.startUp, State.enableReceiver, State.journalStartUp, State.leaveReset]

/-- A row that begins a reset, may begin one, or ends it. -/
def MovesCounter (i : Instr) : Prop := i = .powerOn ∨ i = .pinReset ∨ i = .transmissionCompletion ∨ i = .startUp

/-- Every other row leaves the queue and the counter. -/
theorem steady_exec {i : Instr} (h : ¬ MovesCounter i) (s : State) : ∃ t, exec i s = .next t ∧ Steady s t := by
  obtain hframe | ⟨f, hframe⟩ := Option.eq_none_or_eq_some (frameOf i)
  case inr =>
    rw [exec_eq_frameArrival hframe]
    exact steady_frameArrival ..
  cases i
  case powerOn | pinReset | transmissionCompletion | startUp => exact absurd (by simp [MovesCounter]) h
  case frameFailure cause => exact steady_frameFailure cause s
  case byteReceived byte => exact steady_byteReceived byte s
  case rawLevelChange pin l => exact steady_rawLevelChange pin l s
  case supplyInRange | resetRelease => exact ⟨_, rfl, rfl, rfl⟩
  case sessionLost => exact ⟨_, rfl, by simp [Steady]⟩
  case qualificationTimerExpiry j => exact steady_qualificationTimerExpiry j s
  case contributionReport j => exact steady_contributionReport j s
  case answerTimerExpiry n => exact steady_answerTimerExpiry n s
  case serviceTimerExpiry n => exact steady_serviceTimerExpiry n s
  case grantRequest => exact steady_grantRequest s
  case grantEndRequest => exact steady_grantEndRequest s
  case journalArrival => exact steady_journalArrival s
  case profileSaveCompletion => exact steady_profileSaveCompletion s
  case setBootCompletion => exact steady_setBootCompletion s
  case interByteGapExpiry | deadlineExpiry | holdExpiry | guardExpiry | endOnWithdraw => exact steady_ite _ (by simp [Steady])
  all_goals cases hframe

/-- Settles O3: `steady_exec`, and the four rows about a reset. -/
theorem everyCommandAnswersNextAndKeepsQueueAndCounter : Obligations.EveryCommandAnswersNextAndKeepsQueueAndCounter := by
  intro i s
  by_cases hmoves : MovesCounter i
  case neg =>
    obtain ⟨t, ht, hpending, htime⟩ := steady_exec hmoves s
    exact ⟨t, ht, hpending, fun h => absurd htime h⟩
  obtain rfl | rfl | rfl | rfl := id hmoves
  case inl => exact ⟨_, rfl, rfl, fun _ => ⟨rfl, hmoves⟩⟩
  case inr.inl => exact ⟨_, rfl, rfl, fun _ => ⟨rfl, hmoves⟩⟩
  case inr.inr.inl =>
    obtain ⟨t, ht, hpending, htime⟩ := transmissionCompletion_pending_time s
    exact ⟨t, ht, hpending, fun h => ⟨htime h, hmoves⟩⟩
  case inr.inr.inr =>
    obtain ⟨hpending, htime⟩ := startUp_pending_time s
    by_cases hread : s.power.storeRead = true
    · exact ⟨_, if_pos hread, hpending, fun _ => ⟨htime, hmoves⟩⟩
    · exact ⟨s, if_neg hread, rfl, fun h => absurd rfl h⟩

/-! ### The state after reset -/

theorem reset_steer (i : SourceNo) : State.reset.steer i = factoryEntry := by simp [State.reset, State.steer]

theorem reset_src (i : SourceNo) : State.reset.src i = resetSource .low := by simp [State.reset, State.src]

theorem reset_klass (c : ClassNo) : State.reset.klass c = resetClass factorySettings := by simp [State.reset, State.klass]

theorem reset_line (g : LineNo) : State.reset.line g = freshLine factoryPairing := by simp [State.reset, State.line]

theorem reset_slot (n : SlotNo) : State.reset.store.slot n = .empty := by simp [State.reset, Store.slot]

/-- After reset no source is steered and no line is paired (R161). -/
theorem tablesLaw_reset : TablesLaw State.reset := by
  refine ⟨fun i j _ hsteered _ => ?_, fun g h _ hpaired => ?_, fun n => ?_, trivial⟩
  · simp [State.reset, factoryEntry] at hsteered
  · simp [State.reset, freshLine, factoryPairing] at hpaired
  · rw [reset_slot]
    trivial

theorem reset_flight : State.reset.flight = noMessages := rfl

theorem recordsLaw_reset : RecordsLaw State.reset := by
  exact ⟨⟨by decide, ⟨rfl, rfl, rfl⟩, by decide, by decide, fun r hr => absurd hr (by decide)⟩, nofun⟩

theorem noticeLaw_reset : NoticeLaw State.reset := by
  refine ⟨by decide, .nil, .nil, nofun, fun c hc => ?_, fun _ => rfl, Nat.zero_le _, by decide, by decide, fun c hc => ?_⟩
  all_goals
    rw [reset_klass] at hc
    exact absurd hc (by decide)

theorem sendListLaw_reset : SendListLaw State.reset :=
  ⟨.nil, nofun, nofun, nofun, nofun, nofun, by decide⟩

theorem timely_reset : Timely State.reset := by
  refine ⟨fun i => ?_, fun c => ?_, nofun, fun g => ?_, ⟨timerNear_none _, timerNear_some ?_, timerNear_some ?_⟩, timerNear_none _,
    nofun, nofun⟩
  · rw [reset_src]
    exact timerNear_none _
  · rw [reset_klass]
    exact ⟨timerNear_none _, timerNear_none _⟩
  · rw [reset_line]
    exact timerNear_none _
  · exact show ((170 : Time) - 0).toNat ≤ 65535000 by decide
  · exact show ((1041 : Time) - 0).toNat ≤ 65535000 by decide

theorem classesLaw_reset : ClassesLaw State.reset := by
  simp [ClassesLaw, ClassLaw, reset_klass, resetClass]

theorem linesLaw_reset : LinesLaw State.reset := fun g => by
  rw [reset_line]
  simp [LineLaw, freshLine, factoryPairing, LineRecord.holds]

theorem grantsLaw_reset : GrantsLaw State.reset := by
  refine ⟨fun g n hn => ?_, fun pre i n post hasks => ?_, fun _ => ⟨rfl, fun g => ?_⟩⟩
  · rw [reset_line] at hn
    exact absurd hn nofun
  · simp [reset_flight, noMessages] at hasks
  · rw [reset_line]
    rfl

/-- Settles O4, law by law. -/
theorem lawsHoldAtReset : Obligations.LawsHoldAtReset := by
  obtain ⟨htimers, hframes⟩ := timely_iff.mp timely_reset
  refine ⟨recordsLaw_reset, tablesLaw_reset, fun _ i => ?sources, noticeLaw_reset, classesLaw_reset, linesLaw_reset, ?link, ?attn,
    ?store, nofun, grantsLaw_reset, htimers, hframes, sendListLaw_reset⟩
  case sources =>
    rw [reset_steer, reset_src]
    simp [SourceLaw, factoryEntry, resetSource, liveValue, SourceMode.isEdge, SourceMode.isLevel]
  case link => exact ⟨by decide, .nil, by decide, rfl, fun _ => rfl, fun _ => rfl⟩
  case attn =>
    have hnone : State.reset.attnCondition = false := by
      simp [State.attnCondition, reset_klass, resetClass, ClassRecord.offered]
    rw [AttnLaw, hnone]
    rfl
  case store => exact ⟨by simp [reset_slot], by simp [reset_slot], nofun, nofun⟩

end Sys2Proof.Proofs

/-! ## The frame receiver (O15, O20, O21)

What each byte does in each receive state, and so what the bytes of a whole frame do. -/

namespace Sys2Proof.Proofs

open Sys2Proof Sys2Proof.Machine Sys2Proof.Laws

/-! ### One byte, one failure -/

theorem exec_byteReceived_of_wait {s : State} {w : RxWait} (b : Byte) (henabled : s.link.rxEnabled = true)
    (hwait : s.link.rxWait = some w) : exec (.byteReceived b) s = .next (s.passOver w (highHalfBits b)) := by
  simp only [exec, execByteReceived, henabled, if_true, hwait]

theorem exec_byteReceived_of_taking {s : State} (b : Byte) (henabled : s.link.rxEnabled = true) (hwait : s.link.rxWait = none) :
    exec (.byteReceived b) s = takeByte b s := by
  simp only [exec, execByteReceived, henabled, if_true, hwait]

/-- Settles O20: a receiver that is disabled or waits takes no byte, and `takeByte` says what the others do. -/
theorem byteReceivedFollowsTheReceiveStates : Obligations.ByteReceivedFollowsTheReceiveStates := by
  intro b s
  refine ⟨fun hdisabled => ?disabled, fun w henabled hwait hquiet => ?enabled, fun w henabled hwait hquiet => ?characterError,
    fun henabled hwait => ?taking⟩
  case disabled => simp only [exec, execByteReceived, hdisabled, Bool.false_eq_true, if_false]
  case enabled =>
    rw [exec_byteReceived_of_wait b henabled hwait, passOver_of_enabled hquiet]
    rfl
  case characterError => rw [exec_byteReceived_of_wait b henabled hwait, passOver_of_characterError hquiet]
  case taking =>
    rw [exec_byteReceived_of_taking b henabled hwait]
    refine ⟨fun hrx hb => ?hunt, fun hrx hb => ?huntOther, fun hrx hb => ?len, fun hrx hb => ?lenOver, fun n hrx => ?kind,
      fun n k hrx hn => ?tag, fun k hrx => ?tagEmpty, fun n k t p hrx hp => ?payload, fun n k t p hrx hp => ?payloadEnd,
      fun k t p hrx => ?checkHigh, fun k t p h hrx hbad => ?checkBad, fun k t p h hrx hgood => ?checkGood⟩
    all_goals simp only [takeByte, hrx]
    case hunt => rw [if_pos hb]; rfl
    case huntOther => rw [if_neg hb]
    case len => rw [if_pos hb]; rfl
    case lenOver => rw [if_neg (Nat.not_le.mpr hb)]; rfl
    case kind => rfl
    case tag => rw [if_neg (Nat.ne_of_gt hn)]; rfl
    case tagEmpty => rfl
    case payload => rw [if_neg (Nat.not_le.mpr hp)]; rfl
    case payloadEnd => rw [if_pos hp]; rfl
    case checkHigh => rfl
    case checkBad => exact if_neg hbad
    case checkGood => exact if_pos hgood

/-- A timer that is stopped or has not run its length is not due (R2). -/
theorem not_due_none (now : Time) : due now none = false := rfl

theorem due_of_eq {now : Time} : due now (some now) = true := by simp [due, reached]

theorem not_due_of_near {now t : Time} (hne : t ≠ now) (hnear : (t - now).toNat ≤ 65535000) : due now (some t) = false := by
  simp only [due, reached, Bool.or_eq_false_iff, decide_eq_false_iff_not]
  exact ⟨hne, Nat.not_lt.mpr hnear⟩

/-- Settles O21: a failure is counted where the receiver takes characters and stands in a frame, and the wait follows a character
error. -/
theorem frameFailuresAreCounted : Obligations.FrameFailuresAreCounted := by
  intro s failed waits
  refine ⟨fun c henabled hwait hc => ?failure, fun henabled hwait hrx => ?inFrame, fun henabled hwait hrx => ?inHunt,
    fun w henabled hwait => ⟨fun c hc => ?waiting, ?again⟩, fun c hdisabled => ?disabled, fun hdue => ?gap,
    fun t htimer hne hnear => ?early, fun htimer => ?stopped⟩
  case failure => simp only [exec, execFrameFailure, henabled, if_true, hwait, if_neg hc]; rfl
  case inFrame => simp only [exec, execFrameFailure, henabled, if_true, hwait, State.characterError, if_neg hrx]; rfl
  case inHunt => simp only [exec, execFrameFailure, henabled, if_true, hwait, State.characterError, if_pos hrx]; rfl
  case waiting => simp only [exec, execFrameFailure, henabled, if_true, hwait, if_neg hc]
  case again => simp only [exec, execFrameFailure, henabled, if_true, hwait]; rfl
  case disabled => simp only [exec, execFrameFailure, hdisabled, Bool.false_eq_true, if_false]
  case gap => simp only [exec, execInterByteGapExpiry, hdue, due_of_eq, if_true]; rfl
  case early => simp only [exec, execInterByteGapExpiry, htimer, not_due_of_near hne hnear, Bool.false_eq_true, if_false]
  case stopped => simp only [exec, execInterByteGapExpiry, htimer, not_due_none, Bool.false_eq_true, if_false]

/-! ### The bytes of a frame -/

/-- A number is read back from its bytes (R163). -/
theorem ofBe16_be16 (h : Half) : ofBe16 (h.extractLsb' 8 8) (h.extractLsb' 0 8) = h := by
  rw [ofBe16, BitVec.extractLsb'_append_extractLsb'_eq_extractLsb' (by decide)]
  exact BitVec.extractLsb'_eq_self

theorem lowByte_eq_setWidth (h : Half) : h.extractLsb' 0 8 = h.setWidth 8 := rfl

theorem receiveBytes_cons {b : Byte} {rest : List Byte} {s t : State} (h : exec (.byteReceived b) s = .next t) :
    receiveBytes (b :: rest) s = receiveBytes rest t := by
  simp only [receiveBytes, h]

theorem receiveBytes_singleton (b : Byte) (s : State) : receiveBytes [b] s = exec (.byteReceived b) s := by
  simp only [receiveBytes]
  cases exec (.byteReceived b) s <;> rfl

/-- While the receiver waits for RXD high, only the last byte of several tells, by the bits high behind it (R116). -/
theorem receiveBytes_of_wait {s : State} {w : RxWait} (henabled : s.link.rxEnabled = true) (hwait : s.link.rxWait = some w)
    (bytes : List Byte) (last : Byte) : receiveBytes (bytes ++ [last]) s = .next (s.passOver w (highHalfBits last)) := by
  induction bytes generalizing s w with
  | nil => exact receiveBytes_cons (exec_byteReceived_of_wait last henabled hwait)
  | cons b rest ih =>
    rw [List.cons_append, receiveBytes_cons (exec_byteReceived_of_wait b henabled hwait)]
    cases hquiet : w.quiet with
    | enabled =>
      rw [passOver_of_enabled hquiet, passOver_of_enabled hquiet]
      exact ih (s := s.waitQuiet .enabled (highHalfBits b)) henabled rfl
    | characterError =>
      rw [passOver_of_characterError hquiet]
      exact ih henabled hwait

section Taking

variable {s : State} (henabled : s.link.rxEnabled = true) (hwait : s.link.rxWait = none)
include henabled hwait

/-- The bytes of a payload, of which some have been got, are all got. -/
theorem receiveBytes_payload {n : Nat} {k t : Byte} (got : List Byte) (b : Byte) (bytes rest : List Byte)
    (hlength : got.length + (b :: bytes).length = n) :
    receiveBytes (b :: bytes ++ rest) (s.receiveTo (.payload n k t got))
      = receiveBytes rest (s.receiveTo (.check k t (got ++ b :: bytes) none)) := by
  induction bytes generalizing got b with
  | nil =>
    have hlast : n ≤ got.length + 1 := by simp at hlength; omega
    exact receiveBytes_cons ((exec_byteReceived_of_taking (s := s.receiveTo _) b henabled hwait).trans
      (congrArg Host.Outcome.next (congrArg _ (if_pos hlast))))
  | cons b' bytes ih =>
    have hmore : ¬ n ≤ got.length + 1 := by simp at hlength; omega
    have hbyte : exec (.byteReceived b) (s.receiveTo (.payload n k t got)) = .next (s.receiveTo (.payload n k t (got ++ [b]))) :=
      (exec_byteReceived_of_taking (s := s.receiveTo _) b henabled hwait).trans
        (congrArg Host.Outcome.next (congrArg _ (if_neg hmore)))
    rw [List.cons_append, receiveBytes_cons hbyte, ih (got ++ [b]) b' (by simp at hlength ⊢; omega), List.append_assoc]
    rfl

theorem exec_byteReceived_receiveTo (b : Byte) (r : Receive) :
    exec (.byteReceived b) (s.receiveTo r) = takeByte b (s.receiveTo r) :=
  exec_byteReceived_of_taking (s := s.receiveTo r) b henabled hwait

/-- The check comes high byte first, and a good one is the arrival of the frame. -/
theorem receiveBytes_check (k t : Byte) (p : List Byte) :
    receiveBytes (be16 (frameCheck k t p)) (s.receiveTo (.check k t p none))
      = frameArrival k t p (s.receiveTo (.check k t p (some ((frameCheck k t p).extractLsb' 8 8)))) := by
  rw [be16, receiveBytes_cons (exec_byteReceived_receiveTo henabled hwait ..), receiveBytes_singleton]
  exact (exec_byteReceived_receiveTo henabled hwait ..).trans (if_pos (ofBe16_be16 _))

/-- The bytes of a frame that fits, from HUNT. -/
theorem receiveBytes_wire {f : Frame} (hrx : s.link.rx = .hunt) (hfits : f.payload.length ≤ 60) :
    ∃ r, receiveBytes f.wire s = frameArrival f.kind f.tag f.payload (s.receiveTo r) := by
  obtain ⟨k, t, p⟩ := f
  have hlen : (byteOf p.length).toNat = p.length := by
    rw [byteOf, BitVec.toNat_ofNat, Nat.mod_eq_of_lt (by dsimp only at hfits; omega)]
  have hsync : exec (.byteReceived 0xC3) s = .next (s.receiveTo .len) := by
    rw [exec_byteReceived_of_taking 0xC3 henabled hwait]
    simp only [takeByte, hrx, if_true]
  have hlength : exec (.byteReceived (byteOf p.length)) (s.receiveTo .len) = .next (s.receiveTo (.kind p.length)) := by
    rw [exec_byteReceived_receiveTo henabled hwait]
    exact congrArg Host.Outcome.next (by rw [hlen]; exact if_pos hfits)
  have hkind : exec (.byteReceived k) (s.receiveTo (.kind p.length)) = .next (s.receiveTo (.tag p.length k)) :=
    exec_byteReceived_receiveTo henabled hwait ..
  have htag : exec (.byteReceived t) (s.receiveTo (.tag p.length k))
      = .next (s.receiveTo (if p.length = 0 then .check k t [] none else .payload p.length k t [])) :=
    exec_byteReceived_receiveTo henabled hwait ..
  refine ⟨.check k t p (some ((frameCheck k t p).extractLsb' 8 8)), ?_⟩
  rw [← receiveBytes_check henabled hwait]
  dsimp only [Frame.wire, List.cons_append, List.nil_append]
  rw [receiveBytes_cons hsync, receiveBytes_cons hlength, receiveBytes_cons hkind, receiveBytes_cons htag]
  cases p with
  | nil => rfl
  | cons b bytes => exact receiveBytes_payload henabled hwait [] b bytes _ (by simp)

end Taking

/-- What a frame does does not depend on where the receiver stands, which its bytes have left (R117). -/
theorem takeOrder_receiveTo {s : State} (r : Receive) (henabled : s.link.rxEnabled = true) (hwait : s.link.rxWait = none)
    (kind tag : Byte) (payload : List Byte) (body : Order → State → State) :
    (s.receiveTo r).takeOrder kind tag payload body = s.takeOrder kind tag payload body := by
  by_cases hfull : 4 ≤ s.link.window.length
  · rw [takeOrder_of_full henabled hwait hfull, takeOrder_of_full (s := s.receiveTo r) henabled hwait hfull]
    rfl
  · have hadmits : s.admits := ⟨henabled, hwait, Nat.lt_of_not_le hfull⟩
    rw [takeOrder_of_admits hadmits, takeOrder_of_admits (s := s.receiveTo r) hadmits]
    rfl

theorem payloadFits_of_wf {i : Instr} {f : Frame} (hframe : frameOf i = some f) (hwf : i.wf = true) : f.payload.length ≤ 60 := by
  cases i
  all_goals cases hframe
  all_goals simp_all [Instr.wf, payloadFits]

/-- Settles O15: `receiveBytes_wire` where the receiver takes characters, `receiveBytes_of_wait` where it waits. -/
theorem framesOnTheWireAreTheirCommands : Obligations.FramesOnTheWireAreTheirCommands := by
  intro i f s hframe hwf henabled hrx
  cases hwait : s.link.rxWait with
  | none =>
    obtain ⟨r, hwire⟩ := receiveBytes_wire henabled hwait hrx (payloadFits_of_wf hframe hwf)
    obtain ⟨body, hbody⟩ := frameArrival_eq_takeOrder f.kind f.tag f.payload
    rw [hwire, exec_eq_frameArrival hframe, hbody, hbody, takeOrder_receiveTo r henabled hwait]
  | some w =>
    obtain ⟨body, hexec⟩ := exec_eq_takeOrder hframe
    rw [hexec, takeOrder_of_wait henabled hwait, ← lowByte_eq_setWidth, Frame.wire, be16, List.append_cons _ _ [_],
      receiveBytes_of_wait henabled hwait]

end Sys2Proof.Proofs

/-! ## Records on the wire (O16)

Each enumerated value and number is read back from its code, and so each record from its bytes. -/

namespace Sys2Proof.Proofs

open Sys2Proof Sys2Proof.Machine Sys2Proof.Laws

theorem mode?_code (m : SourceMode) : mode? m.code = some m := by cases m <;> rfl

theorem polarity?_code (p : Polarity) : polarity? p.code = some p := by cases p <;> rfl

theorem flag?_flagByte (b : Bool) : flag? (flagByte b) = some b := by cases b <;> rfl

theorem byteOf_toNat {n : Nat} (h : n < 256) : (byteOf n).toNat = n := by rw [byteOf, BitVec.toNat_ofNat, Nat.mod_eq_of_lt h]

theorem byteOf_ne_none {n : Nat} (h : n < 255) : byteOf n ≠ 0xFF := fun heq => by
  have hvalue := congrArg BitVec.toNat heq
  rw [byteOf_toNat (by omega)] at hvalue
  exact absurd hvalue (Nat.ne_of_lt h)

theorem qualification?_byteOf (q : Fin 16) : qualification? (byteOf q.val) = some q := by
  have hvalue := byteOf_toNat (n := q.val) (by omega)
  simp only [qualification?, hvalue, q.isLt, dif_pos]

/-- A number that may be none is read back, where its own kind of number is and 0xFF is not one. -/
theorem orNone?_numberByte {n : Nat} {number? : Byte → Option (Fin n)} (hn : n ≤ 255)
    (hnumber : ∀ i : Fin n, number? (byteOf i.val) = some i) (x : Option (Fin n)) : orNone? number? (numberByte x) = some x := by
  cases x with
  | none => rfl
  | some i => simp only [numberByte, orNone?, if_neg (byteOf_ne_none (i.isLt.trans_le hn)), hnumber, Option.map_some]

theorem classNo?_byteOf (c : ClassNo) : classNo? (byteOf c.val) = some c :=
  classNo?_of_eq (byteOf_toNat (by omega))

theorem sourceNo?_byteOf (i : SourceNo) : sourceNo? (byteOf i.val) = some i :=
  sourceNo?_of_eq (byteOf_toNat (by omega))

theorem ofBe32_be32 (w : BitVec 32) :
    ofBe32 (w.extractLsb' 24 8) (w.extractLsb' 16 8) (w.extractLsb' 8 8) (w.extractLsb' 0 8) = w := by
  rw [ofBe32, BitVec.extractLsb'_append_extractLsb'_eq_extractLsb' (by decide),
    BitVec.extractLsb'_append_extractLsb'_eq_extractLsb' (by decide),
    BitVec.extractLsb'_append_extractLsb'_eq_extractLsb' (by decide)]
  exact BitVec.extractLsb'_eq_self

/-- Settles O16, field by field. -/
theorem recordsAreReadBackAsWritten : Obligations.RecordsAreReadBackAsWritten := by
  refine ⟨fun e => ⟨_, _, _, _, rfl, ?entry⟩, fun x hdeadline => ⟨_, _, _, _, _, _, rfl, ?settings⟩,
    fun r => ⟨_, _, _, _, _, rfl, ?pairing⟩, fun h => ⟨_, _, rfl, ofBe16_be16 h⟩, fun w => ⟨_, _, _, _, rfl, ofBe32_be32 w⟩⟩
  case entry =>
    simp only [steerEntry?, mode?_code, orNone?_numberByte (by decide) classNo?_byteOf, qualification?_byteOf, flag?_flagByte]
  case settings => simp only [classSettings?, flag?_flagByte, ofBe16_be16, if_neg hdeadline]
  case pairing =>
    simp only [pairing?, orNone?_numberByte (by decide) sourceNo?_byteOf, polarity?_code, flag?_flagByte]

end Sys2Proof.Proofs

/-! ## The transmitter (O19, O22)

Which frame an idle transmitter takes, and what a completed one hands on. -/

namespace Sys2Proof.Proofs

open Sys2Proof Sys2Proof.Machine Sys2Proof.Laws

/-! ### The first frame of the notice send list -/

section FirstFrame

variable {pre post : List NoticeFrame} {f : NoticeFrame} (hpre : ∀ g ∈ pre, f.cls < g.cls) (hpost : ∀ g ∈ post, f.cls ≤ g.cls)
include hpre

theorem not_mem_of_lower : f ∉ pre := fun h => lt_irrefl _ (hpre f h)

theorem erase_lower : (pre ++ f :: post).erase f = pre ++ post := by
  rw [List.erase_append_right _ (not_mem_of_lower hpre), List.erase_cons_head]

theorem find?_cls : (pre ++ f :: post).find? (fun g => g.cls == f.cls) = some f := by
  have hskip : pre.find? (fun g => g.cls == f.cls) = none := by simpa using fun g hg => (hpre g hg).ne'
  simp [List.find?_append, hskip]

include hpost

/-- A frame before which only higher classes' stand, and behind which no lower class's, is the first of the lowest class (R66). -/
theorem firstFrame_eq : firstFrame (pre ++ f :: post) = some f := by
  cases hfirst : firstFrame (pre ++ f :: post) with
  | none => exact absurd (firstFrame_none.mp hfirst) (by simp)
  | some g =>
    obtain ⟨lower, c, higher, hsplit, hfound, hnone⟩ := List.findSome?_eq_some_iff.mp hfirst
    have hg : g ∈ pre ++ f :: post := List.mem_of_find?_eq_some hfound
    have hgc : g.cls = c := by simpa using List.find?_some hfound
    have hle : f.cls ≤ c := by
      rw [← hgc]
      obtain hmem | hmem := List.mem_append.mp hg
      · exact (hpre g hmem).le
      · obtain rfl | hmem := List.mem_cons.mp hmem
        · exact le_rfl
        · exact hpost g hmem
    have hnotLower : f.cls ∉ lower := fun h => by
      have hno := hnone _ h
      rw [find?_cls hpre] at hno
      exact absurd hno nofun
    have hsorted : (lower ++ c :: higher).Pairwise (· < ·) := hsplit ▸ List.pairwise_lt_finRange 16
    have hmem : f.cls ∈ lower ++ c :: higher := hsplit ▸ mem_allClasses f.cls
    have hclass : f.cls = c := by
      obtain hmem | hmem := List.mem_append.mp hmem
      · exact absurd hmem hnotLower
      · obtain hmem | hmem := List.mem_cons.mp hmem
        · exact hmem
        · have hlt := (List.pairwise_cons.mp (List.pairwise_append.mp hsorted).2.1).1 _ hmem
          exact absurd hlt hle.not_gt
    rw [← hclass, find?_cls hpre] at hfound
    exact hfound.symm

end FirstFrame

/-! ### The transmitter arbiter -/

theorem transmit_busy {s : State} (h : s.link.tx.isSome) : s.transmit = s := if_pos h

theorem transmit_start {s : State} (hidle : s.link.tx = none) (hstart : s.link.startPending = true) : s.transmit = s.sendStart := by
  simp only [State.transmit, hidle, Option.isSome_none, Bool.false_eq_true, if_false, hstart, if_true]

theorem transmit_answer {s : State} {a : Answer} {rest : List Answer} (hidle : s.link.tx = none) (hstart : s.link.startPending = false)
    (hanswers : s.link.answers = a :: rest) : s.transmit = s.sendAnswer a rest := by
  simp only [State.transmit, hidle, Option.isSome_none, Bool.false_eq_true, if_false, hstart, hanswers]

theorem transmit_notice {s : State} {f : NoticeFrame} (hidle : s.link.tx = none) (hstart : s.link.startPending = false)
    (hanswers : s.link.answers = []) (hfirst : firstFrame s.dispatcher.sendList = some f) : s.transmit = s.sendNotice f := by
  simp only [State.transmit, hidle, Option.isSome_none, Bool.false_eq_true, if_false, hstart, hanswers, hfirst]

theorem transmit_nothing {s : State} (hstart : s.link.startPending = false) (hanswers : s.link.answers = [])
    (hlist : s.dispatcher.sendList = []) : s.transmit = s := by
  simp only [State.transmit, hstart, Bool.false_eq_true, if_false, hanswers, firstFrame_none.mpr hlist, ite_self]

/-- The transmitter takes a frame off the notice send list, between those before and behind it (R66). -/
theorem sendNotice_eq (s : State) {pre post : List NoticeFrame} {f : NoticeFrame} (hlist : s.dispatcher.sendList = pre ++ f :: post)
    (hpre : ∀ g ∈ pre, f.cls < g.cls) : s.sendNotice f = { s with
      dispatcher := { s.dispatcher with sendList := pre ++ post }
      link := { s.link with
        tx := some
          { frame := { kind := if f.kind = .overdue then 0x61 else 0x60, tag := 0, payload := f.payload }
            origin := if f.kind = .overdue then .overdue else .notice (some f.notice)
            ends := s.time + frameMicros s.link.rate f.payload.length } } } := by
  simp only [State.sendNotice, hlist, erase_lower hpre, State.send]
  obtain ⟨notice, cls, kind, payload⟩ := f
  cases kind <;> rfl

/-- With a choice to make the arbiter counts it, and takes the answer or the notice frame (log 9). -/
theorem transmitJoined_both {s : State} {f : NoticeFrame} (hidle : s.link.tx = none) (hstart : s.link.startPending = false)
    (hanswers : s.link.answers ≠ []) (hfirst : firstFrame s.dispatcher.sendList = some f) :
    s.transmitJoined = ({ s with choices := s.choices + 1 } : State).transmit
    ∨ s.transmitJoined = ({ s with choices := s.choices + 1 } : State).sendNotice f := by
  have hsome : s.link.answers.isEmpty = false := by simpa using hanswers
  simp only [State.transmitJoined, hidle, hstart, hsome, hfirst, Option.isSome_none, Bool.or_false, Bool.false_eq_true, if_false]
  split
  · exact .inr rfl
  · exact .inl rfl

theorem transmitJoined_one {s : State} (h : s.link.tx.isSome ∨ s.link.startPending = true ∨ s.link.answers = []
    ∨ s.dispatcher.sendList = []) : s.transmitJoined = s.transmit := by
  obtain h | h | h | h := h
  case inr.inr.inr => simp only [State.transmitJoined, firstFrame_none.mpr h, ite_self]
  all_goals simp [State.transmitJoined, h]

/-- Settles O19, by the arbiter's branches. -/
theorem transmitterArbiterChoosesInOrder : Obligations.TransmitterArbiterChoosesInOrder := by
  intro s noticeTaken
  refine ⟨transmit_busy, fun hidle hstart => ?start, fun hidle hstart a rest hanswers => ?answer,
    fun hidle hstart hanswers pre f post hlist hpre hpost => ?notice, transmit_nothing,
    fun hidle hstart hanswers pre f post hlist hpre hpost => ?joined, transmitJoined_one⟩
  case start =>
    rw [transmit_start hidle hstart]
    rfl
  case answer =>
    rw [transmit_answer hidle hstart hanswers]
    simp [State.sendAnswer, State.send, Answer.frame, Nat.add_comm 2]
  case notice => rw [transmit_notice hidle hstart hanswers (hlist ▸ firstFrame_eq hpre hpost), sendNotice_eq s hlist hpre]
  case joined =>
    have htaken : noticeTaken { s with choices := s.choices + 1 } pre f post
        = ({ s with choices := s.choices + 1 } : State).sendNotice f  :=
      (sendNotice_eq { s with choices := s.choices + 1 } hlist hpre).symm
    rw [htaken]
    exact transmitJoined_both hidle hstart hanswers (hlist ▸ firstFrame_eq hpre hpost)

/-! ### The completion of a transmission -/

theorem exec_transmissionCompletion {s : State} {x : Sending} (hsending : s.link.tx = some x) (hends : x.ends = s.time) :
    exec .transmissionCompletion s = .next (({ s with link := { s.link with tx := none } } : State).completed x.origin).transmit := by
  simp only [exec, execTransmissionCompletion, hsending, reached, hends, decide_true, Bool.true_or, if_true]

theorem updated_split {n : Byte} (f : NoticeEntry → NoticeEntry) {pre post : List NoticeEntry} {e : NoticeEntry} (hnumber : e.number = n)
    (hothers : ∀ x ∈ pre ++ post, x.number ≠ n) : updated n f (pre ++ e :: post) = pre ++ [f e] ++ post := by
  have hkeep : ∀ l : List NoticeEntry, (∀ x ∈ l, x.number ≠ n) → updated n f l = l := fun l hl =>
    (List.map_congr_left fun x hx => if_neg (hl x hx)).trans l.map_id
  have hpre := hkeep pre fun x hx => hothers x (List.mem_append_left _ hx)
  have hpost := hkeep post fun x hx => hothers x (List.mem_append_right _ hx)
  simp only [updated, List.map_append, List.map_cons, hnumber, if_true] at hpre hpost ⊢
  rw [hpre, hpost, List.append_assoc, List.singleton_append]

theorem frameSent_eq (e : NoticeEntry) (now : Time) (timeout : Byte) : e.frameSent now timeout = { e with
    sent := e.sent + 1
    answerTimer := if e.state = .notified then some (now + BitVec.ofNat 32 (timeout.toNat * 1000)) else e.answerTimer } := by
  have hmillis : millis (timeout.zeroExtend 16) = BitVec.ofNat 32 (timeout.toNat * 1000) := by
    rw [millis, BitVec.toNat_setWidth_of_le (by decide)]
  unfold NoticeEntry.frameSent
  split <;> simp only [hmillis]

/-- Settles O22, by the frame completed. -/
theorem transmissionCompletionIsHandedOn : Obligations.TransmissionCompletionIsHandedOn := by
  intro s
  refine ⟨fun x hsending hends => ?due, fun x hsending hne hnear => ?early, fun hidle => ?idle⟩
  case due =>
    rw [exec_transmissionCompletion hsending hends]
    refine ⟨fun h => ?start, fun o h => ?answer, fun o h => ?restart, fun pre e post h hsplit hothers => ?notice, fun h => ?other⟩
    case start => rw [h]; rfl
    case answer => rw [h]; rfl
    case restart => rw [h]; rfl
    case notice =>
      have hentries := updated_split (fun x => x.frameSent s.time s.session.answerTimeout) (e := e) rfl hothers
      rw [frameSent_eq, ← hsplit] at hentries
      rw [h, ← hentries]
      rfl
    case other => obtain h | h := h <;> rw [h] <;> rfl
  case early =>
    have hnot : ¬ reached s.time x.ends = true := fun h => hne ((reached_iff hnear).mp h)
    simp only [exec, execTransmissionCompletion, hsending, if_neg hnot]
  case idle => simp only [exec, execTransmissionCompletion, hidle]

end Sys2Proof.Proofs

/-! ## Events on a source (O26, O27)

What an assertion event and the live flag make of a source record, and what they tell the other blocks. -/

namespace Sys2Proof.Proofs

open Sys2Proof Sys2Proof.Machine Sys2Proof.Laws

/-! ### What an event tells -/

/-- The record handed under the source's journal option, if it is on (R106). -/
def sourceRecords (s : State) (i : SourceNo) (k : RecordKind) (count : Option (BitVec 32)) : List RecordBody :=
  if (s.steer i).journal then [{ time := s.time, kind := k, source := some i, cls := (s.steer i).cls, count := count }] else []

/-- The report of a changed contribution, to the class that the source is steered to, if any (R10, R11). -/
def sourceReports (s : State) (i : SourceNo) (contributes : Bool) : List Report :=
  match (s.steer i).cls with
  | some c => [{ source := i, cls := c, contributes := contributes }]
  | none => []

/-- The state in which some records, reports and withdrawals have been told. -/
def told (s : State) (records : List RecordBody) (reports : List Report) (withdrawn : List SourceNo) : State :=
  { s with flight := { s.flight with
      arrivals := s.flight.arrivals ++ records
      reports := s.flight.reports ++ reports
      withdrawals := s.flight.withdrawals ++ withdrawn } }

theorem told_nil (s : State) : told s [] [] [] = s := by simp [told]

theorem told_told (s : State) (a a' : List RecordBody) (r r' : List Report) (w w' : List SourceNo) :
    told (told s a r w) a' r' w' = told s (a ++ a') (r ++ r') (w ++ w') := by simp [told, List.append_assoc]

theorem handSource_eq (s : State) (i : SourceNo) (k : RecordKind) (count : Option (BitVec 32)) :
    s.handSource i k count = told s (sourceRecords s i k count) [] [] := by
  unfold State.handSource sourceRecords
  split
  · simp [told, State.hand]
  · exact (told_nil s).symm

theorem report_eq (s : State) (i : SourceNo) (contributes : Bool) : s.report i contributes = told s [] (sourceReports s i contributes) [] := by
  unfold State.report sourceReports
  cases (s.steer i).cls with
  | some c => simp [told]
  | none => exact (told_nil s).symm

/-- An assertion event sets the latch, counts, and is reported where the latch was clear (R7, R10, R11). -/
theorem assertEvent_eq (s : State) (i : SourceNo) (forced : Bool) :
    s.assertEvent i forced = told (s.setSrc i (asserted (s.src i)))
      (sourceRecords s i (assertKind forced) (some ((satSucc (s.src i).count).zeroExtend 32)))
      (if (s.src i).latch then [] else sourceReports s i true) [] := by
  unfold State.assertEvent
  simp only [handSource_eq, report_eq, told_told]
  split
  · rfl
  · simp only [List.append_nil, List.nil_append]
    rfl

section DeriveLive

variable {s : State} {i : SourceNo} {forced : Bool}

theorem deriveLive_of_same (h : liveValue (s.steer i).mode (s.src i).qualified (s.src i).forced = (s.src i).live) :
    s.deriveLive i forced = s := if_pos h

theorem deriveLive_of_rise (h : liveValue (s.steer i).mode (s.src i).qualified (s.src i).forced = true) (hlive : (s.src i).live = false) :
    s.deriveLive i forced = told (s.setSrc i { s.src i with live := true, count := satSucc (s.src i).count })
      (sourceRecords s i (assertKind forced) (some ((satSucc (s.src i).count).zeroExtend 32))) (sourceReports s i true) [] := by
  simp only [State.deriveLive, h, hlive, Bool.true_eq_false, if_false, if_true, handSource_eq, report_eq, told_told, List.append_nil,
    List.nil_append]
  rfl

theorem deriveLive_of_fall (h : liveValue (s.steer i).mode (s.src i).qualified (s.src i).forced = false) (hlive : (s.src i).live = true) :
    s.deriveLive i forced = told (s.setSrc i { s.src i with live := false })
      (sourceRecords s i .withdraw none) (sourceReports s i false) [i] := by
  have htell : ∀ t : State, t.tellWithdrawal i = told t [] [] [i] := fun t => by simp [told, State.tellWithdrawal]
  simp only [State.deriveLive, h, hlive, Bool.false_eq_true, if_false, handSource_eq, report_eq, htell, told_told, List.append_nil,
    List.nil_append]
  rfl

end DeriveLive

/-! ### A qualified transition -/

theorem liveValue_iff {m : SourceMode} (hm : m = .levelHigh ∨ m = .levelLow) (v : Level) (forced : Bool) :
    liveValue m v forced = true ↔ (m = .levelHigh ∧ v = .high) ∨ (m = .levelLow ∧ v = .low) ∨ forced = true := by
  obtain rfl | rfl := hm <;> simp [liveValue]

theorem isLevel_iff {m : SourceMode} : m.isLevel = true ↔ m = .levelHigh ∨ m = .levelLow := by cases m <;> simp [SourceMode.isLevel]

theorem transition_of_still {s : State} {i : SourceNo} {v : Level} (hlevel : (s.steer i).mode.isLevel = false)
    (hacts : (s.steer i).mode.actsOn v = false) : s.transition i v = s.setSrc i { s.src i with qualified := v } := by
  simp only [State.transition, setSrc_steer, hlevel, hacts, Bool.false_eq_true, if_false]

theorem transition_of_acts {s : State} {i : SourceNo} {v : Level} (hacts : (s.steer i).mode.actsOn v = true) :
    s.transition i v = (s.setSrc i { s.src i with qualified := v }).assertEvent i false := by
  have hlevel := not_isLevel_of_isEdge (isEdge_of_actsOn hacts)
  simp only [State.transition, setSrc_steer, hlevel, hacts, Bool.false_eq_true, if_false, if_true]

theorem transition_of_isLevel {s : State} {i : SourceNo} {v : Level} (hlevel : (s.steer i).mode.isLevel = true) :
    s.transition i v = (s.setSrc i { s.src i with qualified := v }).deriveLive i false := by
  simp only [State.transition, setSrc_steer, hlevel, if_true]

/-- A record written over another is the record. -/
theorem setSrc_setSrc (s : State) (i : SourceNo) (r r' : SourceRecord) : (s.setSrc i r).setSrc i r' = s.setSrc i r' := by
  simp [State.setSrc]

/-- Settles O27: a transition is an assertion event, a derivation of the live flag, or neither, by the mode. -/
theorem qualifiedTransitionsActByMode : Obligations.QualifiedTransitionsActByMode := by
  intro i v s r e moved up record report active
  have hactive : e.mode = .levelHigh ∨ e.mode = .levelLow → (liveValue e.mode v r.forced = true ↔ active) := fun hm =>
    liveValue_iff hm v r.forced
  refine ⟨fun hmode => ?still, fun hmode => ?acts, fun hmode hsame => ?same, fun hmode hup hlive => ?rise,
    fun hmode hdown hlive => ?fall⟩
  case still =>
    refine transition_of_still ?_ ?_
    all_goals obtain h | ⟨h, hv⟩ | ⟨h, hv⟩ := hmode
    all_goals simp_all [e, SourceMode.isLevel, SourceMode.actsOn]
  case acts =>
    have hacts : (s.steer i).mode.actsOn v = true := by
      obtain h | ⟨h, hv⟩ | ⟨h, hv⟩ := hmode <;> simp_all [e, SourceMode.actsOn]
    rw [transition_of_acts hacts, assertEvent_eq, setSrc_src_self, setSrc_setSrc]
    simp only [told, List.append_nil]
    rfl
  all_goals
    rw [transition_of_isLevel (isLevel_iff.mpr hmode)]
  case same =>
    refine deriveLive_of_same ?_
    rw [setSrc_src_self, setSrc_steer, Bool.eq_iff_iff]
    exact (hactive hmode).trans hsame
  case rise =>
    rw [deriveLive_of_rise, setSrc_src_self, setSrc_setSrc]
    · simp only [told, List.append_nil]
      rfl
    · rw [setSrc_src_self]
      exact (hactive hmode).mpr hup
    · rwa [setSrc_src_self]
  case fall =>
    rw [deriveLive_of_fall, setSrc_src_self, setSrc_setSrc]
    · rfl
    · rw [setSrc_src_self, setSrc_steer, Bool.eq_false_iff]
      exact fun h => hdown ((hactive hmode).mp h)
    · rwa [setSrc_src_self]

/-! ### A raw level change, and the end of its qualification -/

section RawChange

variable {s : State} {i : SourceNo} {v : Level}

theorem rawChange_of_same (h : (s.src i).raw = v) : s.rawChange i v = s := if_pos h

theorem rawChange_in_reset (h : (s.src i).raw ≠ v) (hreset : s.power.inReset = true) :
    s.rawChange i v = s.setSrc i { s.src i with raw := v } := by
  simp only [State.rawChange, if_neg h, hreset, if_true]

section Running

variable (h : (s.src i).raw ≠ v) (hreset : s.power.inReset = false)
include h hreset

theorem rawChange_starts (htimer : (s.src i).timer = none) (haway : v ≠ (s.src i).qualified) (hq : (s.steer i).qualification ≠ 0) :
    s.rawChange i v = s.setSrc i { s.src i with
      raw := v, timer := some { target := v, expiry := s.time + qualLength (s.steer i).qualification } } := by
  simp only [State.rawChange, if_neg h, hreset, Bool.false_eq_true, if_false, htimer, if_neg haway, if_neg hq]

theorem rawChange_at_once (htimer : (s.src i).timer = none) (haway : v ≠ (s.src i).qualified) (hq : (s.steer i).qualification = 0) :
    s.rawChange i v = (s.setSrc i { s.src i with raw := v }).transition i v := by
  simp only [State.rawChange, if_neg h, hreset, Bool.false_eq_true, if_false, htimer, if_neg haway, hq, if_true]

theorem rawChange_stops (htimer : (s.src i).timer.isSome) (hback : v = (s.src i).qualified) :
    s.rawChange i v = s.setSrc i { s.src i with raw := v, timer := none } := by
  obtain ⟨x, hx⟩ := Option.isSome_iff_exists.mp htimer
  simp only [State.rawChange, if_neg h, hreset, Bool.false_eq_true, if_false, hx, if_pos hback]

end Running

end RawChange

/-- Settles O26, by the branches of `rawChange`. -/
theorem sourceLinesAreQualified : Obligations.SourceLinesAreQualified := by
  intro i v s seen
  refine ⟨rfl, rfl, fun hsame => ?same, fun hne hreset => ?inReset, fun hne hreset htimer haway hq => ?starts,
    fun hne hreset htimer haway hq => ?atOnce, fun hne hreset htimer hback => ?stops, fun x htimer hexpiry => ?expires,
    fun x htimer hne hnear => ?early, fun htimer => ?stopped⟩
  case same => exact congrArg Host.Outcome.next (rawChange_of_same hsame)
  case inReset => exact congrArg Host.Outcome.next (rawChange_in_reset hne hreset)
  case starts => exact congrArg Host.Outcome.next (rawChange_starts hne hreset htimer haway hq)
  case atOnce => exact congrArg Host.Outcome.next (rawChange_at_once hne hreset htimer haway hq)
  case stops => exact congrArg Host.Outcome.next (rawChange_stops hne hreset htimer hback)
  case expires =>
    simp only [exec, execQualificationTimerExpiry, htimer, hexpiry, reached, decide_true, Bool.true_or, if_true]
  case early =>
    have hnot : ¬ reached s.time x.expiry = true := fun h => hne ((reached_iff hnear).mp h)
    simp only [exec, execQualificationTimerExpiry, htimer, if_neg hnot]
  case stopped => simp only [exec, execQualificationTimerExpiry, htimer]

end Sys2Proof.Proofs

/-! ## FORCE (O28, O29) -/

namespace Sys2Proof.Proofs

open Sys2Proof Sys2Proof.Machine Sys2Proof.Laws

/-! ### The checks of R14 -/

/-- The fields of a FORCE answer about a source in a mode with a record (R167). -/
def forcedFields (b : Byte) (m : SourceMode) (x : SourceRecord) : List Byte :=
  [b, m.code, flagByte (decide (x.qualified = .high)) ||| (flagByte x.forced <<< 1) ||| (flagByte (contributesIn m x) <<< 2), x.count]

theorem forceFields_eq {s : State} {b : Byte} {i : SourceNo} (hb : b.toNat = i.val) :
    s.forceFields b = forcedFields b (s.steer i).mode (s.src i) := by
  simp only [State.forceFields, sourceNo?_of_eq hb]
  rfl

theorem enterWindow_forceFields (s : State) (o : Order) (b : Byte) : (s.enterWindow o).forceFields b = s.forceFields b := rfl

/-- The three FORCE rows are one arrival; its body, admitted. -/
theorem exec_force {s : State} (h : s.admits) (tag b a : Byte) {row : Instr}
    (hrow : row ∈ [Instr.forcePulse tag [b, a], .forceOn tag [b, a], .forceOff tag [b, a]]) :
    exec row s = .next (forceOrder { kind := 0x10, tag := tag } b a (s.enterWindow { kind := 0x10, tag := tag })) := by
  have harrival : exec row s = .next (forceArrival tag [b, a] s) := by
    simp only [List.mem_cons, List.not_mem_nil, or_false] at hrow
    obtain rfl | rfl | rfl := hrow <;> rfl
  rw [harrival, forceArrival, takeOrder_of_admits h]

section Checks

variable {s : State} {b a : Byte} {i : SourceNo} (o : Order)

theorem forceOrder_beyond (hb : 32 ≤ b.toNat) :
    forceOrder o b a (s.enterWindow o) = (s.answered o .range [b, 0, 0, 0]).transmit := by
  simp only [forceOrder, State.forceFields, sourceNo?_of_le hb]
  rfl

theorem forceOrder_noAction (ha : forceAction? a = none) :
    forceOrder o b a (s.enterWindow o) = (s.answered o .range (s.forceFields b)).transmit := by
  simp only [forceOrder, ha, enterWindow_forceFields, enterWindow_reply]
  cases sourceNo? b <;> rfl

variable {act : ForceAction} (hb : b.toNat = i.val) (ha : forceAction? a = some act)
include hb ha

theorem forceOrder_off (hoff : (s.steer i).mode = .off) :
    forceOrder o b a (s.enterWindow o) = (s.answered o .wrongState (s.forceFields b)).transmit := by
  simp only [forceOrder, sourceNo?_of_eq hb, ha]
  exact if_pos hoff

theorem forceOrder_unfit (hoff : (s.steer i).mode ≠ .off) (hunfit : act.fits (s.steer i).mode = false) :
    forceOrder o b a (s.enterWindow o) = (s.answered o .range (s.forceFields b)).transmit := by
  simp only [forceOrder, sourceNo?_of_eq hb, ha]
  exact (if_neg hoff).trans (if_neg (Bool.eq_false_iff.mp hunfit))

theorem forceOrder_fits (hoff : (s.steer i).mode ≠ .off) (hfits : act.fits (s.steer i).mode = true) :
    forceOrder o b a (s.enterWindow o)
      = ((s.enterWindow o).force i act).reply o .ok (((s.enterWindow o).force i act).forceFields b) := by
  simp only [forceOrder, sourceNo?_of_eq hb, ha]
  exact (if_neg hoff).trans (if_pos hfits)

end Checks

theorem forceAction?_eq_none {a : Byte} (h1 : a ≠ 1) (h2 : a ≠ 2) (h3 : a ≠ 3) : forceAction? a = none := by
  simp only [forceAction?, if_neg h1, if_neg h2, if_neg h3]

/-- Settles O29: each refusal is an answer and nothing else, of the fields that R14 gives. -/
theorem forceRefusedChangesNothing : Obligations.ForceRefusedChangesNothing := by
  intro tag b a s h refused fields row hrow
  rw [exec_force h tag b a hrow]
  refine ⟨fun hb => ?beyond, fun i hb h1 h2 h3 => ?action, fun i hb ha hoff => ?off, fun i hb hunfit => ?unfit⟩
  case beyond => rw [forceOrder_beyond _ hb]
  all_goals have hfields : s.forceFields b = fields i := forceFields_eq hb
  case action => rw [forceOrder_noAction _ (forceAction?_eq_none h1 h2 h3), hfields]
  case off =>
    obtain ⟨act, hact⟩ : ∃ act, forceAction? a = some act := by obtain rfl | rfl | rfl := ha <;> exact ⟨_, rfl⟩
    rw [forceOrder_off _ hb hact hoff, hfields]
  case unfit =>
    obtain ⟨rfl, hlevel⟩ | ⟨ha, hedge⟩ := hunfit
    · rw [forceOrder_unfit _ hb (act := .pulse) rfl (ne_off_of_isLevel hlevel) (not_isEdge_of_isLevel hlevel), hfields]
    · obtain ⟨act, hact, hunfit⟩ : ∃ act, forceAction? a = some act ∧ act.fits (s.steer i).mode = false := by
        obtain rfl | rfl := ha
        · exact ⟨.on, rfl, not_isLevel_of_isEdge hedge⟩
        · exact ⟨.off, rfl, not_isLevel_of_isEdge hedge⟩
      rw [forceOrder_unfit _ hb hact (ne_off_of_isEdge hedge) hunfit, hfields]

/-! ### An accepted FORCE -/

/-- A FORCE that makes `x` of its source's record, and tells some messages, is answered with the record. -/
theorem exec_force_ok {s : State} (h : s.admits) {tag b a : Byte} {i : SourceNo} {row : Instr}
    (hrow : row ∈ [Instr.forcePulse tag [b, a], .forceOn tag [b, a], .forceOff tag [b, a]]) (hb : b.toNat = i.val) {act : ForceAction}
    (ha : forceAction? a = some act) (hfits : act.fits (s.steer i).mode = true) {x : SourceRecord} {records : List RecordBody}
    {reports : List Report} {withdrawn : List SourceNo}
    (hforce : ∀ o, (s.enterWindow o).force i act = told ((s.enterWindow o).setSrc i x) records reports withdrawn) :
    exec row s = .next ((told (s.setSrc i x) records reports withdrawn).answered { kind := 0x10, tag := tag } .ok
      (forcedFields b (s.steer i).mode x)).transmit := by
  have hoff : (s.steer i).mode ≠ .off := by
    intro hoff
    rw [hoff] at hfits
    cases act <;> exact absurd hfits (by decide)
  have hfields : ∀ o, (told ((s.enterWindow o).setSrc i x) records reports withdrawn).forceFields b
      = forcedFields b (s.steer i).mode x := by
    intro o
    have hx : (told ((s.enterWindow o).setSrc i x) records reports withdrawn).src i = x := setSrc_src_self ..
    rw [forceFields_eq hb, hx]
    rfl
  rw [exec_force h tag b a hrow, forceOrder_fits _ hb ha hoff hfits, hforce, hfields]
  rfl

section Forced

variable {s : State} {i : SourceNo} {v : Bool}

theorem forced_of_same (h : liveValue (s.steer i).mode (s.src i).qualified v = (s.src i).live) :
    (s.setSrc i { s.src i with forced := v }).deriveLive i true = told (s.setSrc i { s.src i with forced := v }) [] [] [] := by
  rw [told_nil, deriveLive_of_same]
  rwa [setSrc_src_self]

theorem forced_of_rise (h : liveValue (s.steer i).mode (s.src i).qualified v = true) (hlive : (s.src i).live = false) :
    (s.setSrc i { s.src i with forced := v }).deriveLive i true
      = told (s.setSrc i { s.src i with forced := v, live := true, count := satSucc (s.src i).count })
          (sourceRecords s i .assertForced (some ((satSucc (s.src i).count).zeroExtend 32))) (sourceReports s i true) [] := by
  rw [deriveLive_of_rise, setSrc_src_self, setSrc_setSrc]
  · rfl
  · rwa [setSrc_src_self]
  · rwa [setSrc_src_self]

theorem forced_of_fall (h : liveValue (s.steer i).mode (s.src i).qualified v = false) (hlive : (s.src i).live = true) :
    (s.setSrc i { s.src i with forced := v }).deriveLive i true
      = told (s.setSrc i { s.src i with forced := v, live := false })
          (sourceRecords s i .withdraw none) (sourceReports s i false) [i] := by
  rw [deriveLive_of_fall, setSrc_src_self, setSrc_setSrc]
  · rfl
  · rwa [setSrc_src_self]
  · rwa [setSrc_src_self]

end Forced

theorem liveValue_forced {m : SourceMode} (hm : m.isLevel = true) (v : Level) : liveValue m v true = true :=
  (liveValue_iff (isLevel_iff.mp hm) v true).mpr (.inr (.inr rfl))

/-- Without the forced flag the live flag follows the level (R8). -/
theorem liveValue_unforced {m : SourceMode} (hm : m.isLevel = true) (v : Level) :
    liveValue m v false = true ↔ (m = .levelHigh ∧ v = .high) ∨ (m = .levelLow ∧ v = .low) := by
  rw [liveValue_iff (isLevel_iff.mp hm)]
  simp

/-- Settles O28: `exec_force_ok` with what the assertion event or the live flag makes of the record. -/
theorem forceAcceptedActsOnTheSource : Obligations.ForceAcceptedActsOnTheSource := by
  intro tag b i s h hb r e up fields record report done levelActive
  refine ⟨fun hedge => ?pulse, fun hlevel hlive => ?on, fun hlevel hlive => ?onLive, fun hlevel hlive hnot => ?off,
    fun hlevel hlive => ?offStill⟩
  case pulse =>
    exact exec_force_ok h (a := 1) (by simp) hb (act := .pulse) rfl hedge fun o => assertEvent_eq (s.enterWindow o) i true
  case on =>
    exact exec_force_ok h (a := 2) (by simp) hb (act := .on) rfl hlevel fun o =>
      forced_of_rise (s := s.enterWindow o) (liveValue_forced hlevel _) hlive
  case onLive =>
    exact exec_force_ok h (a := 2) (by simp) hb (act := .on) rfl hlevel fun o =>
      forced_of_same (s := s.enterWindow o) ((liveValue_forced hlevel _).trans hlive.symm)
  all_goals have hunforced := liveValue_unforced hlevel r.qualified
  case off =>
    exact exec_force_ok h (a := 3) (by simp) hb (act := .off) rfl hlevel fun o =>
      forced_of_fall (s := s.enterWindow o) (Bool.eq_false_iff.mpr fun hup => hnot (hunforced.mp hup)) hlive
  case offStill =>
    exact exec_force_ok h (a := 3) (by simp) hb (act := .off) rfl hlevel fun o =>
      forced_of_same (s := s.enterWindow o) (Bool.eq_iff_iff.mpr (hunforced.trans hlive.symm))

end Sys2Proof.Proofs

/-! ## SET-STEER (O30, O31) -/

namespace Sys2Proof.Proofs

open Sys2Proof Sys2Proof.Machine Sys2Proof.Laws

/-! ### Requests taken as an order stands in the window -/

/-- Taking a request neither reads nor writes the link. -/
theorem takeAsk_withLink (s : State) (a : GrantAsk) (l : Link) :
    ({ s with link := l } : State).takeAsk a = { s.takeAsk a with link := l } := by
  cases a with
  | finish n => rfl
  | grant i n =>
    obtain ⟨hg, h⟩ | ⟨g, hg, happlies, hlive, htold, h⟩ | ⟨g, hg, hgrants, h⟩ := takeGrant_cases s i n
    all_goals simp only [State.takeAsk]
    case inl =>
      rw [h]
      exact takeGrant_of_none (s := { s with link := l }) hg n
    case inr.inl =>
      rw [h]
      exact takeGrant_of_withdrawn (s := { s with link := l }) n hg happlies hlive htold
    case inr.inr =>
      rw [h]
      exact takeGrant_of_granted (s := { s with link := l }) n hg hgrants

theorem foldl_takeAsk_withLink (asks : List GrantAsk) (l : Link) (s : State) :
    asks.foldl State.takeAsk { s with link := l } = { asks.foldl State.takeAsk s with link := l } := by
  induction asks generalizing s with
  | nil => rfl
  | cons a rest ih => rw [List.foldl_cons, takeAsk_withLink, ih, List.foldl_cons]

theorem takeAsks_enterWindow (s : State) (o : Order) : (s.enterWindow o).takeAsks = s.takeAsks.enterWindow o := by
  have h := foldl_takeAsk_withLink s.flight.asks (s.enterWindow o).link { s with flight := { s.flight with asks := [] } }
  have hwindow : s.takeAsks.enterWindow o = { s.takeAsks with link := (s.enterWindow o).link } := by simp [State.enterWindow]
  exact h.trans hwindow.symm

/-! ### The record and the classes under a new entry -/

theorem reevaluateSteered_eq (s : State) (c : Option ClassNo) :
    s.reevaluateSteered c = { s with classes := (s.reevaluateSteered c).classes } := by
  cases c <;> rfl

theorem replaceEntry_eq (s : State) (i : SourceNo) (e : SteerEntry) :
    let kept := (s.steer i).mode = e.mode ∧ (s.steer i).cls = e.cls
    s.replaceEntry i e = { s with
      steering := s.steering.set i e
      sources := if kept then s.sources else s.sources.set i ((s.src i).cleared e.mode)
      flight := { s.flight with
        reports := if kept then s.flight.reports else s.flight.reports.filter fun r => r.source != i } } := by
  dsimp only
  unfold State.replaceEntry
  split <;> rfl

theorem classes_eq_ofFn (s : State) : s.classes = Vector.ofFn s.klass := by
  refine Vector.ext fun c hc => ?_
  simp [State.klass]

/-- An accepted SET-STEER replaces the entry, and beyond that changes the classes only (R23, R24). -/
theorem steerTo_eq (s : State) (i : SourceNo) (e : SteerEntry) :
    s.steerTo i e = { s.replaceEntry i e with
      classes := Vector.ofFn fun k => if (s.steer i).cls = some k ∨ e.cls = some k
        then (s.klass k).reevaluate s.time ((s.replaceEntry i e).contributors k) else s.klass k } := by
  have hclasses : s.steerTo i e = { s.replaceEntry i e with classes := (s.steerTo i e).classes } := by
    unfold State.steerTo
    dsimp only
    split
    · exact reevaluateSteered_eq ..
    · rw [reevaluateSteered_eq, reevaluateSteered_eq]
  rw [hclasses, classes_eq_ofFn (s.steerTo i e)]
  simp only [funext (steerTo_klass s i e)]

/-! ### The checks of R20 and R21 -/

/-- The first of all numbers that passes a test. -/
theorem find?_finRange_eq_some {n : Nat} {p : Fin n → Bool} {i : Fin n} (hi : p i = true) (hleast : ∀ j, j < i → p j = false) :
    (List.finRange n).find? p = some i := by
  refine List.find?_eq_some_iff_getElem.mpr ⟨hi, i.val, by simp, by simp, fun j hj => ?_⟩
  have hno := hleast ⟨j, hj.trans i.isLt⟩ hj
  simp [hno]

/-- The first other member of a class that passes a test (R21). -/
theorem othersIn_find? {s : State} {i n : SourceNo} {c : ClassNo} {p : SourceNo → Bool} (hn : n ≠ i) (hc : (s.steer n).cls = some c)
    (hp : p n = true) (hleast : ∀ x, x < n → x ≠ i → (s.steer x).cls = some c → p x = false) : (s.othersIn i c).find? p = some n := by
  simp only [State.othersIn, State.members, List.find?_filter]
  refine find?_finRange_eq_some (by simp [hn, hc, hp]) fun x hx => ?_
  by_cases hi : x = i
  · simp [hi]
  · by_cases hxc : (s.steer x).cls = some c
    · simp [hleast x hx hi hxc]
    · simp [hxc]

section Checks

variable {s : State} {i n : SourceNo} {e : SteerEntry} {k : ClassNo}

theorem steeredInUse_eq_some (hcls : (s.steer i).cls = some k) (hflight : (s.klass k).state.inFlight = true) :
    s.steeredInUse i = some k := by simp [State.steeredInUse, hcls, hflight]

theorem steeredInUse_eq_none (h : ∀ k, (s.steer i).cls = some k → (s.klass k).state.inFlight = false) : s.steeredInUse i = none := by
  simpa [State.steeredInUse, Option.filter_eq_none_iff] using h

/-- An entry in an edge mode conflicts with the first other member of its class (R21). -/
theorem conflict_of_edge (hcls : e.cls = some k) (hn : n ≠ i) (hmember : (s.steer n).cls = some k) (hedge : e.mode.isEdge = true)
    (hleast : ∀ x, x < n → x ≠ i → (s.steer x).cls ≠ some k) : s.conflict i e = some (k, n) := by
  have hfirst : (s.othersIn i k).find? (fun _ => true) = some n :=
    othersIn_find? hn hmember rfl fun x hx hi hk => absurd hk (hleast x hx hi)
  have hhead : (s.othersIn i k).head? = some n := by
    cases hl : s.othersIn i k with
    | nil => simp [hl] at hfirst
    | cons x l => simpa [hl] using hfirst
  simp [State.conflict, hcls, hedge, hhead]

/-- An entry in another mode conflicts with the first other member of its class in an edge mode (R21). -/
theorem conflict_of_member (hcls : e.cls = some k) (hn : n ≠ i) (hmember : (s.steer n).cls = some k) (hmode : e.mode.isEdge = false)
    (hedge : (s.steer n).mode.isEdge = true)
    (hleast : ∀ x, x < n → x ≠ i → (s.steer x).cls = some k → (s.steer x).mode.isEdge = false) : s.conflict i e = some (k, n) := by
  have hfirst := othersIn_find? (p := fun j => (s.steer j).mode.isEdge) hn hmember hedge hleast
  simp [State.conflict, hcls, hmode, hfirst]

theorem conflict_eq_none (h : ∀ k, e.cls = some k → ∀ n, n ≠ i → (s.steer n).cls = some k →
    e.mode.isEdge = false ∧ (s.steer n).mode.isEdge = false) : s.conflict i e = none := by
  cases hcls : e.cls with
  | none => simp [State.conflict, hcls]
  | some k =>
    have hothers : ∀ j ∈ s.othersIn i k, e.mode.isEdge = false ∧ (s.steer j).mode.isEdge = false := fun j hj => by
      obtain ⟨hmember, hne⟩ : (s.steer j).cls = some k ∧ j ≠ i := by simpa [State.othersIn, State.members, and_comm] using hj
      exact h k hcls j hne hmember
    cases hedge : e.mode.isEdge with
    | false => simpa [State.conflict, hcls, hedge] using fun j hj => (hothers j hj).2
    | true =>
      have hnone : s.othersIn i k = [] := List.eq_nil_iff_forall_not_mem.mpr fun j hj => by
        simp [hedge] at hothers
        exact hothers j hj
      simp [State.conflict, hcls, hedge, hnone]

end Checks

/-! ### The order -/

theorem exec_setSteer {s : State} (h : s.admits) (tag b m c q j : Byte) :
    exec (.setSteer tag [b, m, c, q, j]) s
      = .next (setSteerOrder { kind := 0x08, tag := tag } b m c q j (s.enterWindow { kind := 0x08, tag := tag })) :=
  congrArg Host.Outcome.next (takeOrder_of_admits h ..)

section Order

variable {s : State} {b m c q j : Byte} {i n : SourceNo} {e : SteerEntry} {k : ClassNo} (o : Order)

theorem setSteerOrder_beyond (hb : 32 ≤ b.toNat) :
    setSteerOrder o b m c q j (s.enterWindow o) = (s.answered o .range (b :: factoryEntry.bytes)).transmit := by
  simp only [setSteerOrder, sourceNo?_of_le hb, enterWindow_reply]

variable (hb : b.toNat = i.val)
include hb

theorem setSteerOrder_range (he : steerEntry? m c q j = none) :
    setSteerOrder o b m c q j (s.enterWindow o) = (s.answered o .range (b :: (s.steer i).bytes)).transmit := by
  simp only [setSteerOrder, sourceNo?_of_eq hb, he]
  rfl

variable (he : steerEntry? m c q j = some e)
include he

theorem setSteerOrder_inUse (huse : s.steeredInUse i = some k) :
    setSteerOrder o b m c q j (s.enterWindow o)
      = (s.answered o .inUse (b :: (s.steer i).bytes ++ [byteOf k.val, (s.klass k).state.code])).transmit := by
  have huse' : (s.enterWindow o).steeredInUse i = some k := huse
  simp only [setSteerOrder, sourceNo?_of_eq hb, he, huse']
  rfl

variable (huse : s.steeredInUse i = none)
include huse

theorem setSteerOrder_conflict (hconflict : s.conflict i e = some (k, n)) :
    setSteerOrder o b m c q j (s.enterWindow o)
      = (s.answered o .conflict (b :: (s.steer i).bytes ++ [byteOf k.val, byteOf n.val])).transmit := by
  have huse' : (s.enterWindow o).steeredInUse i = none := huse
  have hconflict' : (s.enterWindow o).conflict i e = some (k, n) := hconflict
  simp only [setSteerOrder, sourceNo?_of_eq hb, he, huse', hconflict']
  rfl

theorem setSteerOrder_ok (hconflict : s.conflict i e = none) :
    setSteerOrder o b m c q j (s.enterWindow o)
      = (((s.takeAsks.steerTo i e).answered o .ok (b :: e.bytes)).dispatch.evalAttn).transmitJoined := by
  have huse' : (s.enterWindow o).steeredInUse i = none := huse
  have hconflict' : (s.enterWindow o).conflict i e = none := hconflict
  have hsteer : (s.takeAsks.enterWindow o).steerTo i e = (s.takeAsks.steerTo i e).enterWindow o := by
    rw [steerTo_eq, steerTo_eq, replaceEntry_eq, replaceEntry_eq]
    rfl
  simp only [setSteerOrder, sourceNo?_of_eq hb, he, huse', hconflict', takeAsks_enterWindow, hsteer, enterWindow_replyAndDispatch]

end Order

theorem mode?_of_lt {m : Byte} (h : 5 < m.toNat) : mode? m = none := by
  unfold mode?
  split_ifs <;> simp_all

theorem qualification?_of_lt {q : Byte} (h : 15 < q.toNat) : qualification? q = none := dif_neg (Nat.not_lt.mpr h)

theorem orNone?_of_none {α : Type} {number? : Byte → Option α} {b : Byte} (hb : b ≠ 0xFF) (h : number? b = none) :
    orNone? number? b = none := by simp only [orNone?, if_neg hb, h, Option.map_none]

theorem steerEntry?_eq_none {m c q j : Byte} (h : 5 < m.toNat ∨ (15 < c.toNat ∧ c ≠ 0xFF) ∨ 15 < q.toNat ∨ 1 < j.toNat) :
    steerEntry? m c q j = none := by
  obtain hm | ⟨hc, hne⟩ | hq | hj := h
  · simp only [steerEntry?, mode?_of_lt hm]
  · simp only [steerEntry?, orNone?_of_none hne (classNo?_of_le hc)]
    cases mode? m <;> rfl
  · simp only [steerEntry?, qualification?_of_lt hq]
    cases mode? m <;> cases orNone? classNo? c <;> rfl
  · simp only [steerEntry?, flag?_of_lt hj]
    cases mode? m <;> cases orNone? classNo? c <;> cases qualification? q <;> rfl

/-- Settles O31: the checks in their order. -/
theorem setSteerRefusedChangesNothing : Obligations.SetSteerRefusedChangesNothing := by
  intro tag b m c q j s h refused
  rw [exec_setSteer h]
  refine ⟨fun hb => ?beyond, fun i hb hrange => ?range, fun i e k hb he hcls hflight => ?inUse,
    fun i n e k hb he hfree hcls hn hmember hedge hleast => ?edge,
    fun i n e k hb he hfree hcls hn hmember hmode hedge hleast => ?member⟩
  case beyond =>
    rw [setSteerOrder_beyond _ hb]
    rfl
  case range => rw [setSteerOrder_range _ hb (steerEntry?_eq_none hrange)]
  case inUse => rw [setSteerOrder_inUse _ hb he (steeredInUse_eq_some hcls hflight)]
  case edge =>
    rw [setSteerOrder_conflict _ hb he (steeredInUse_eq_none hfree) (conflict_of_edge hcls hn hmember hedge hleast)]
  case member =>
    rw [setSteerOrder_conflict _ hb he (steeredInUse_eq_none hfree) (conflict_of_member hcls hn hmember hmode hedge hleast)]

/-- Settles O30: the requests are taken, and `steerTo_eq` says what the order then makes of tables, records and classes. -/
theorem setSteerAcceptedReplacesTheEntry : Obligations.SetSteerAcceptedReplacesTheEntry := by
  intro tag b m c q j i e s h hb he hfree hshare kept w u v
  have hsteer : s.takeAsks.steer i = s.steer i := steer_congr (by simp) i
  have hsrc : s.takeAsks.src i = s.src i := src_congr (by simp) i
  have hklass : ∀ k, s.takeAsks.klass k = s.klass k := klass_congr (by simp)
  have hreplaced : s.takeAsks.replaceEntry i e = u := by
    rw [replaceEntry_eq]
    have hsteering : s.takeAsks.steering = s.steering := by simp
    have hsources : s.takeAsks.sources = s.sources := by simp
    have hreports : s.takeAsks.flight.reports = s.flight.reports := by simp
    simp only [hsteer, hsrc, hsteering, hsources, hreports]
    rfl
  have htime : s.takeAsks.time = s.time := by simp
  have hsteered : s.takeAsks.steerTo i e = v := by
    rw [steerTo_eq, hreplaced]
    simp only [hsteer, hklass, htime, v]
  rw [exec_setSteer h, setSteerOrder_ok _ hb he (steeredInUse_eq_none hfree) (conflict_eq_none hshare), hsteered]

end Sys2Proof.Proofs

/-! ## A run of the dispatch arbiter (O40)

A notice makes no class eligible that was not, so one pass over the classes in order is the whole run. -/

namespace Sys2Proof.Proofs

open Sys2Proof Sys2Proof.Machine Sys2Proof.Laws

/-! ### One notice -/

theorem dispatchAt_of_eligible {s : State} {c : ClassNo} (h : s.eligible c = true) : s.dispatchAt c = s.createNotice c := if_pos h

theorem dispatchAt_of_not_eligible {s : State} {c : ClassNo} (h : s.eligible c = false) : s.dispatchAt c = s :=
  if_neg (Bool.eq_false_iff.mp h)

theorem eligible_iff (s : State) (c : ClassNo) :
    s.eligible c = true ↔ s.session.up = true ∧ (s.klass c).offered = true ∧ s.roomFor (s.klass c).settings.critical = true
      ∧ s.nestingAllows c = true := by
  simp only [State.eligible, Bool.and_eq_true, and_assoc]

theorem offered_of_eligible {s : State} {c : ClassNo} (h : s.eligible c = true) : (s.klass c).offered = true := by
  obtain ⟨-, hoffered, -⟩ := (eligible_iff s c).mp h
  exact hoffered

theorem createNotice_klass_self (s : State) (c : ClassNo) : (s.createNotice c).klass c = { s.klass c with state := .notified } := by
  rw [createNotice_klass, if_pos rfl]

theorem createNotice_klass_of_ne (s : State) {c d : ClassNo} (h : d ≠ c) : (s.createNotice c).klass d = s.klass d := by
  rw [createNotice_klass, if_neg h]

theorem createNotice_entries (s : State) (c : ClassNo) :
    (s.createNotice c).dispatcher.entries = s.dispatcher.entries ++ [newEntry (takenNumber s) c (s.klass c)] := rfl

theorem createNotice_arrivals (s : State) (c : ClassNo) : (s.createNotice c).flight.arrivals
    = s.flight.arrivals ++ [{ time := s.time, kind := .notice, cls := some c, notice := some (takenNumber s) }] := rfl

theorem not_eligible_createNotice_self (s : State) (c : ClassNo) : (s.createNotice c).eligible c = false := by
  rw [Bool.eq_false_iff]
  intro h
  have hoffered := offered_of_eligible h
  simp [createNotice_klass_self, ClassRecord.offered] at hoffered

/-- A class noticed leaves less room, and blocks no less than it did (R61, R62). -/
theorem eligible_of_eligible_createNotice {s : State} {c d : ClassNo} (hc : s.eligible c = true) (h : (s.createNotice c).eligible d = true) :
    s.eligible d = true := by
  have hne : d ≠ c := by
    rintro rfl
    rw [not_eligible_createNotice_self] at h
    exact absurd h nofun
  have hsession : (s.createNotice c).session = s.session := by simp
  obtain ⟨hup, hoffered, hroom, hnesting⟩ := (eligible_iff _ d).mp h
  rw [hsession] at hup
  rw [createNotice_klass_of_ne s hne] at hoffered hroom
  refine (eligible_iff s d).mpr ⟨hup, hoffered, ?_, ?_⟩
  · simp only [State.roomFor, createNotice_entries, hsession, List.length_append, List.length_singleton] at hroom ⊢
    split at hroom
    all_goals
      rename_i hcritical
      simp only [hcritical, ↓reduceIte, Bool.false_eq_true, decide_eq_true_eq] at hroom ⊢
      omega
  · have hblocks : ∀ x, ((s.createNotice c).klass x).state.blocks = (s.klass x).state.blocks := fun x => by
      rw [createNotice_klass]
      split
      · subst_vars
        rw [pending_of_eligible hc]
        rfl
      · rfl
    simpa only [State.nestingAllows, hsession, hblocks] using hnesting

theorem eligible_of_eligible_dispatchAt {s : State} {c d : ClassNo} (h : (s.dispatchAt c).eligible d = true) : s.eligible d = true := by
  by_cases hc : s.eligible c = true
  · rw [dispatchAt_of_eligible hc] at h
    exact eligible_of_eligible_createNotice hc h
  · rwa [dispatchAt_of_not_eligible (Bool.eq_false_iff.mpr hc)] at h

theorem not_eligible_dispatchAt_self (s : State) (c : ClassNo) : (s.dispatchAt c).eligible c = false := by
  by_cases hc : s.eligible c = true
  · rw [dispatchAt_of_eligible hc, not_eligible_createNotice_self]
  · rw [dispatchAt_of_not_eligible (Bool.eq_false_iff.mpr hc)]
    exact Bool.eq_false_iff.mpr hc

/-! ### A pass over some classes -/

theorem eligible_of_eligible_pass (l : List ClassNo) {s : State} {d : ClassNo} (h : (l.foldl State.dispatchAt s).eligible d = true) :
    s.eligible d = true := by
  induction l generalizing s with
  | nil => exact h
  | cons c rest ih => exact eligible_of_eligible_dispatchAt (ih h)

theorem not_eligible_pass {l : List ClassNo} {c : ClassNo} (hc : c ∈ l) (s : State) : (l.foldl State.dispatchAt s).eligible c = false := by
  induction l generalizing s with
  | nil => exact absurd hc List.not_mem_nil
  | cons d rest ih =>
    obtain rfl | hc := List.mem_cons.mp hc
    · rw [Bool.eq_false_iff]
      intro h
      have hafter := eligible_of_eligible_pass rest h
      rw [not_eligible_dispatchAt_self] at hafter
      exact absurd hafter nofun
    · exact ih hc _

theorem pass_of_not_eligible {l : List ClassNo} {s : State} (h : ∀ c ∈ l, s.eligible c = false) : l.foldl State.dispatchAt s = s := by
  induction l with
  | nil => rfl
  | cons c rest ih =>
    rw [List.foldl_cons, dispatchAt_of_not_eligible (h c (by simp))]
    exact ih fun d hd => h d (by simp [hd])

/-- With none before a class eligible the pass begins at the class, and so does the pass that follows it. -/
theorem dispatch_eq_dispatchAt_dispatch {s : State} {c : ClassNo} (hleast : ∀ d, d < c → s.eligible d = false) :
    s.dispatch = (s.dispatchAt c).dispatch := by
  obtain ⟨lower, higher, hsplit⟩ := List.append_of_mem (mem_allClasses c)
  have hsorted : (lower ++ c :: higher).Pairwise (· < ·) := hsplit ▸ List.pairwise_lt_finRange 16
  obtain ⟨-, -, hbefore⟩ := List.pairwise_append.mp hsorted
  have hlower : ∀ d ∈ lower, s.eligible d = false := fun d hd => hleast d (hbefore d hd c (by simp))
  have hafter : ∀ d, s.eligible d = false → (s.dispatchAt c).eligible d = false := fun d hd => by
    rw [Bool.eq_false_iff] at hd ⊢
    exact fun h => hd (eligible_of_eligible_dispatchAt h)
  simp only [State.dispatch, hsplit, List.foldl_append, List.foldl_cons]
  rw [pass_of_not_eligible hlower, pass_of_not_eligible fun d hd => hafter d (hlower d hd),
    dispatchAt_of_not_eligible (not_eligible_dispatchAt_self s c)]

/-! ### What a pass leaves -/

/-- The NOTICE record handed for an entry created at a reading. -/
def noticeRecord (now : Time) (e : NoticeEntry) : RecordBody :=
  { time := now, kind := .notice, cls := some e.cls, notice := some e.number }

/-- What a pass over the classes `l` has made of `s`: entries for offered classes among them, in their order, and nothing else. -/
structure Passed (l : List ClassNo) (s t : State) (new : List NoticeEntry) : Prop where
  entries : t.dispatcher.entries = s.dispatcher.entries ++ new
  classes : (new.map (·.cls)).Sublist l
  noticed : ∀ e ∈ new, (s.klass e.cls).offered = true ∧ e.state = .notified ∧ t.klass e.cls = { s.klass e.cls with state := .notified }
  others : ∀ c, (∀ e ∈ new, e.cls ≠ c) → t.klass c = s.klass c
  arrivals : t.flight.arrivals = s.flight.arrivals ++ new.map (noticeRecord s.time)

theorem pass_passed {l : List ClassNo} (hl : l.Nodup) (s : State) : ∃ new, Passed l s (l.foldl State.dispatchAt s) new := by
  induction l generalizing s with
  | nil => exact ⟨[], by simp, .slnil, nofun, fun _ _ => rfl, by simp⟩
  | cons c rest ih =>
    obtain ⟨hnot, hrest⟩ := List.nodup_cons.mp hl
    obtain ⟨new, hentries, hclasses, hnoticed, hothers, harrivals⟩ := ih hrest (s.dispatchAt c)
    by_cases hc : s.eligible c = true
    · rw [dispatchAt_of_eligible hc] at hentries hnoticed hothers harrivals
      have hne : ∀ e ∈ new, e.cls ≠ c := fun e he heq => hnot (heq ▸ hclasses.subset (List.mem_map_of_mem he))
      have htime : (s.createNotice c).time = s.time := by simp
      refine ⟨newEntry (takenNumber s) c (s.klass c) :: new, ?_, hclasses.cons_cons c, fun e he => ?_, fun d hd => ?_, ?_⟩
      all_goals rw [List.foldl_cons, dispatchAt_of_eligible hc]
      · rw [hentries, createNotice_entries, List.append_assoc, List.singleton_append]
      · obtain rfl | he := List.mem_cons.mp he
        · exact ⟨offered_of_eligible hc, rfl, (hothers c hne).trans (createNotice_klass_self s c)⟩
        · have hsame := createNotice_klass_of_ne s (hne e he)
          rw [← hsame]
          exact hnoticed e he
      · rw [hothers d fun e he => hd e (List.mem_cons_of_mem _ he), createNotice_klass_of_ne]
        exact (hd _ List.mem_cons_self).symm
      · rw [harrivals, createNotice_arrivals, htime, List.append_assoc, List.singleton_append]
        rfl
    · rw [dispatchAt_of_not_eligible (Bool.eq_false_iff.mpr hc)] at hentries hnoticed hothers harrivals
      refine ⟨new, ?_, hclasses.cons c, ?_, ?_, ?_⟩
      all_goals rw [List.foldl_cons, dispatchAt_of_not_eligible (Bool.eq_false_iff.mpr hc)]
      · exact hentries
      · exact hnoticed
      · exact hothers
      · exact harrivals

/-- A pass touches the table, the notice send list, the classes and the records handed. -/
theorem pass_eq (l : List ClassNo) (s : State) : l.foldl State.dispatchAt s = { s with
    dispatcher := (l.foldl State.dispatchAt s).dispatcher, classes := (l.foldl State.dispatchAt s).classes
    flight := { s.flight with arrivals := (l.foldl State.dispatchAt s).flight.arrivals } } := by
  induction l generalizing s with
  | nil => rfl
  | cons c rest ih =>
    rw [List.foldl_cons, ih (s.dispatchAt c)]
    by_cases hc : s.eligible c = true
    · rw [dispatchAt_of_eligible hc]
      rfl
    · rw [dispatchAt_of_not_eligible (Bool.eq_false_iff.mpr hc)]

/-- Settles O40, by what a pass over all classes in order does. -/
theorem dispatchRunLeavesNoClassEligible : Obligations.DispatchRunLeavesNoClassEligible := by
  intro s
  refine ⟨fun hnone => pass_of_not_eligible fun c _ => hnone c, fun c _ hleast => dispatch_eq_dispatchAt_dispatch hleast,
    fun c => not_eligible_pass (mem_allClasses c) s, ?_, pass_eq allClasses s⟩
  obtain ⟨new, hentries, hclasses, hnoticed, hothers, harrivals⟩ := pass_passed (List.nodup_finRange 16) s
  exact ⟨new, hentries, (List.pairwise_lt_finRange 16).sublist hclasses, hnoticed, hothers, harrivals⟩

end Sys2Proof.Proofs

/-! ## Class records, reports and class timers (O33, O34, O35) -/

namespace Sys2Proof.Proofs

open Sys2Proof Sys2Proof.Machine Sys2Proof.Laws

/-! ### What a record becomes -/

section Records

variable {r : ClassRecord} {now : Time} {i : SourceNo} {found : List SourceNo}

theorem settleFresh_nil (r : ClassRecord) (now : Time) : r.settleFresh now [] = r.enterIdle := if_pos rfl

theorem settleFresh_of_found (h : found ≠ []) : r.settleFresh now found = r.enterFresh now found := if_neg h

theorem settleContinued_nil (r : ClassRecord) : r.settleContinued [] = r.enterIdle := if_pos rfl

theorem settleContinued_of_found (h : found ≠ []) : r.settleContinued found = r.enterContinued found := if_neg h

theorem reevaluate_of_idle (h : r.state = .idle) : r.reevaluate now found = r.settleFresh now found := by
  simp only [ClassRecord.reevaluate, h]

theorem reevaluate_of_pending (h : r.state = .pending) :
    r.reevaluate now found = if found = [] then r.enterIdle else { r with reported := found } := by
  simp only [ClassRecord.reevaluate, h]

theorem reportOn_of_idle (h : r.state = .idle) : r.reportOn now i = r.enterFresh now (insertSource i r.reported) := by
  simp only [ClassRecord.reportOn, h]

theorem reportOn_of_pending (h : r.state = .pending) : r.reportOn now i = { r with reported := insertSource i r.reported } := by
  simp only [ClassRecord.reportOn, h]

theorem reportOff_of_idle (h : r.state = .idle) : r.reportOff i found = { r with reported := removeSource i r.reported } := by
  simp only [ClassRecord.reportOff, h]

theorem reportOff_of_pending (h : r.state = .pending) :
    r.reportOff i found = if found = [] then r.enterIdle else { r with reported := found } := by
  simp only [ClassRecord.reportOff, h]

/-- With a notice, or held, a class heeds no report and no re-evaluation (R36). -/
theorem unmoved_of_engaged (hidle : r.state ≠ .idle) (hpending : r.state ≠ .pending) :
    r.reevaluate now found = r ∧ r.reportOn now i = r ∧ r.reportOff i found = r := by
  cases hstate : r.state
  case idle => exact absurd hstate hidle
  case pending => exact absurd hstate hpending
  all_goals simp only [ClassRecord.reevaluate, ClassRecord.reportOn, ClassRecord.reportOff, hstate, and_self]

end Records

theorem insertSource_nil (i : SourceNo) : insertSource i [] = [i] := by
  revert i
  decide

/-- Settles O33, by the state of the record. -/
theorem classRecordsMoveByTheRulesOfEntry : Obligations.ClassRecordsMoveByTheRulesOfEntry := by
  intro r now i found idle fresh
  refine ⟨⟨rfl, rfl, rfl⟩, ⟨settleFresh_nil r now, settleContinued_nil r⟩,
    fun hfound => ⟨settleFresh_of_found hfound, settleContinued_of_found hfound⟩, fun hidle => ?idle, fun hpending => ?pending,
    unmoved_of_engaged⟩
  case idle =>
    refine ⟨?_, fun hfound => ?_, fun hnone => ?_, fun hnone => ?_⟩
    · rw [reevaluate_of_idle hidle, settleFresh_nil]
      rfl
    · rw [reevaluate_of_idle hidle, settleFresh_of_found hfound]
      rfl
    · rw [reportOn_of_idle hidle, hnone, insertSource_nil]
      rfl
    · rw [reportOff_of_idle hidle, hnone, removeSource, List.filter_nil, ← hnone]
  case pending =>
    refine ⟨?_, fun hfound => ?_, reportOn_of_pending hpending, ?_, fun hfound => ?_⟩
    · rw [reevaluate_of_pending hpending, if_pos rfl]
      rfl
    · rw [reevaluate_of_pending hpending, if_neg hfound]
    · rw [reportOff_of_pending hpending, if_pos rfl]
      rfl
    · rw [reportOff_of_pending hpending, if_neg hfound]

/-- Settles O34: the report found is the oldest of the source, and it is taken off the list. -/
theorem contributionReportsReachTheirClass : Obligations.ContributionReportsReachTheirClass := by
  intro i s
  refine ⟨fun pre r post hreports hsource hpre => ?taken, fun hnone => ?untaken⟩
  case taken =>
    have hskip : pre.find? (fun x => x.source == i) = none := by simpa using hpre
    have hfound : s.flight.reports.find? (fun x => x.source == i) = some r := by
      simp [hreports, List.find?_append, hskip, hsource]
    have hnot : r ∉ pre := fun h => hpre r h hsource
    have herase : s.flight.reports.erase r = pre ++ post := by
      rw [hreports, List.erase_append_right _ hnot, List.erase_cons_head]
    simp only [exec, execContributionReport, hfound, herase]
    subst hsource
    rfl
  case untaken =>
    have hfound : s.flight.reports.find? (fun x => x.source == i) = none := by simpa using hnone
    simp only [exec, execContributionReport, hfound]

/-- Settles O35: a timer that is due marks its class late or reads it. -/
theorem classTimersExpire : Obligations.ClassTimersExpire := by
  intro c s
  refine ⟨fun hdue => ?deadline, fun hdue => ?hold, fun x hx => ?neither⟩
  case deadline =>
    simp only [exec, execDeadlineExpiry, hdue, due_of_eq, if_true]
    rfl
  case hold =>
    simp only [exec, execHoldExpiry, hdue, due_of_eq, if_true]
    rfl
  case neither =>
    have hnot : due s.time x.2 = false → exec x.1 s = .next s := fun h => by
      simp only [List.mem_cons, List.not_mem_nil, or_false] at hx
      obtain rfl | rfl := hx
      · exact if_neg (Bool.eq_false_iff.mp h)
      · exact if_neg (Bool.eq_false_iff.mp h)
    exact ⟨fun t ht hne hnear => hnot (ht ▸ not_due_of_near hne hnear), fun ht => hnot (ht ▸ not_due_none s.time)⟩

end Sys2Proof.Proofs

/-! ## CLAIM and the notice timers (O41, O45) -/

namespace Sys2Proof.Proofs

open Sys2Proof Sys2Proof.Machine Sys2Proof.Laws

/-! ### The claim list as a list of sources -/

section ClaimList

variable (s : State) (c : ClassNo)

theorem claimListOf_any (i : SourceNo) : (s.claimListOf c).any (fun x => x.source == i) = decide (i ∈ s.contributors c) := by
  rw [Bool.eq_iff_iff]
  simp [State.claimListOf]

theorem claimListOf_counts : (s.claimListOf c).map (·.count) = (s.contributors c).map fun i => (s.src i).count := by
  simp [State.claimListOf]

theorem claimSum_claimListOf : claimSum (s.claimListOf c) = ((s.contributors c).map fun i => (s.src i).count.toNat).sum := by
  simp [claimSum, State.claimListOf, Function.comp_def]

theorem claimListBytes_claimListOf : claimListBytes (s.claimListOf c)
    = be32 (sourceSet fun i => decide (i ∈ s.contributors c)) ++ (s.contributors c).map fun i => (s.src i).count := by
  simp only [claimListBytes, claimListOf_any, claimListOf_counts]

theorem pairedLine_isSome (i : SourceNo) : (s.pairedLine i).isSome = decide (∃ g, (s.line g).pairing.source = some i) := by
  rw [Bool.eq_iff_iff]
  simp [State.pairedLine, List.find?_isSome]

theorem claimAsks_claimListOf (n : Byte) : s.claimAsks n (s.claimListOf c)
    = ((s.contributors c).filter fun i => decide (∃ g, (s.line g).pairing.source = some i)).map fun i => .grant i n := by
  simp only [State.claimAsks, State.claimListOf, List.filter_map, List.map_map, Function.comp_def, pairedLine_isSome]

theorem clearedReports_claimListOf :
    ((s.claimListOf c).filter fun x => (s.steer x.source).mode.isEdge).map
        (fun x => ({ source := x.source, cls := c, contributes := false } : Report))
      = ((s.contributors c).filter fun i => (s.steer i).mode.isEdge).map
          fun i => ({ source := i, cls := c, contributes := false } : Report) := by
  simp only [State.claimListOf, List.filter_map, List.map_map, Function.comp_def]

end ClaimList

theorem clearClaimed_eq (s : State) (c : ClassNo) : s.clearClaimed c (s.claimListOf c) = { s with
    sources := Vector.ofFn fun i => if i ∈ s.contributors c then (s.src i).claimed (s.steer i).mode else s.src i
    flight := { s.flight with
      reports := s.flight.reports ++ ((s.contributors c).filter fun i => (s.steer i).mode.isEdge).map
        fun i => { source := i, cls := c, contributes := false } } } := by
  rw [State.clearClaimed, clearedReports_claimListOf]
  simp only [claimListOf_any, decide_eq_true_eq]

theorem clearClaimed_withDispatcher (s : State) (d : Dispatcher) (c : ClassNo) (l : List ClaimItem) :
    ({ s with dispatcher := d } : State).clearClaimed c l = { s.clearClaimed c l with dispatcher := d } := rfl

/-- The table after a CLAIM: the entry claimed, its unsent frames gone (R66, R73). -/
def claimedTable (e : NoticeEntry) (s : State) : Dispatcher :=
  (s.dispatcher.update e.number fun x => x.claimed (s.claimListOf e.cls) s.time (s.klass e.cls).settings.limit).dropFrames e.number

theorem claimEffect_eq_cleared (e : NoticeEntry) (s : State) : claimEffect e s =
    let t := ({ s with dispatcher := claimedTable e s } : State).clearClaimed e.cls (s.claimListOf e.cls)
    (t.ask (t.claimAsks e.number (s.claimListOf e.cls))).setKlass e.cls
      { t.klass e.cls with state := .inService, deadlineTimer := none, late := false } := rfl

theorem claimAsks_congr {s t : State} (h : t.lines = s.lines) (n : Byte) (l : List ClaimItem) : t.claimAsks n l = s.claimAsks n l := by
  simp only [State.claimAsks, State.pairedLine, line_congr h]

theorem claimEffect_eq (e : NoticeEntry) (s : State) : claimEffect e s = { s with
    dispatcher := claimedTable e s
    sources := Vector.ofFn fun i => if i ∈ s.contributors e.cls then (s.src i).claimed (s.steer i).mode else s.src i
    classes := s.classes.set e.cls { s.klass e.cls with state := .inService, deadlineTimer := none, late := false }
    flight := { s.flight with
      reports := s.flight.reports ++ ((s.contributors e.cls).filter fun i => (s.steer i).mode.isEdge).map
        fun i => { source := i, cls := e.cls, contributes := false }
      asks := s.flight.asks ++ ((s.contributors e.cls).filter fun i => decide (∃ g, (s.line g).pairing.source = some i)).map
        fun i => .grant i e.number } } := by
  rw [claimEffect_eq_cleared]
  have hlines : (({ s with dispatcher := claimedTable e s } : State).clearClaimed e.cls (s.claimListOf e.cls)).lines = s.lines := by
    simp
  dsimp only
  rw [claimAsks_congr hlines, clearClaimed_withDispatcher, clearClaimed_eq, ← claimAsks_claimListOf]
  generalize Vector.ofFn (fun i => if i ∈ s.contributors e.cls then (s.src i).claimed (s.steer i).mode else s.src i) = sources
  rfl

theorem claimEffect_enterWindow (e : NoticeEntry) (s : State) (o : Order) :
    claimEffect e (s.enterWindow o) = (claimEffect e s).enterWindow o := by
  have hfound : (s.enterWindow o).contributors e.cls = s.contributors e.cls := rfl
  have hsrc : ∀ i, (s.enterWindow o).src i = s.src i := fun _ => rfl
  have hsteer : ∀ i, (s.enterWindow o).steer i = s.steer i := fun _ => rfl
  have hline : ∀ g, (s.enterWindow o).line g = s.line g := fun _ => rfl
  rw [claimEffect_eq, claimEffect_eq]
  simp only [hfound, hsrc, hsteer, hline]
  generalize Vector.ofFn (fun i => if i ∈ s.contributors e.cls then (s.src i).claimed (s.steer i).mode else s.src i) = sources
  rfl

theorem claimTaken_enterWindow {s : State} (o : Order) (e : NoticeEntry) (hup : s.session.up = true) :
    claimTaken o e (s.enterWindow o)
      = (({ (claimEffect e s).handNotice .claim e.cls e.number
              (some (BitVec.ofNat 32 ((s.contributors e.cls).map fun i => (s.src i).count.toNat).sum)) with
            session := { s.session with attn := false } } : State).answered o .ok
          ([e.number, byteOf e.cls.val] ++ be32 s.time ++ be32 (sourceSet fun i => decide (i ∈ s.contributors e.cls))
            ++ (s.contributors e.cls).map fun i => (s.src i).count)).transmit := by
  have hlist : (s.enterWindow o).claimListOf e.cls = s.claimListOf e.cls := rfl
  have hsession : (claimEffect e s).session = s.session := by simp
  have htime : ((claimEffect e s).enterWindow o).time = s.time := by simp
  rw [claimTaken_eq_claimEffect, claimEffect_enterWindow, hlist, htime, claimSum_claimListOf, claimListBytes_claimListOf, ← hsession]
  rw [← hsession] at hup
  generalize claimEffect e s = t at hup
  rw [evalAttn_of_up (s := (t.enterWindow o).handNotice ..) hup, List.append_assoc _ (be32 _)]
  rfl

theorem claimedTable_eq {s : State} {pre post : List NoticeEntry} {e : NoticeEntry} (hsplit : s.dispatcher.entries = pre ++ e :: post)
    (hothers : ∀ x ∈ pre ++ post, x.number ≠ e.number) : claimedTable e s = { s.dispatcher with
      entries := pre ++ [e.claimed (s.claimListOf e.cls) s.time (s.klass e.cls).settings.limit] ++ post
      sendList := s.dispatcher.sendList.filter fun f => f.notice != e.number } := by
  have hentries := updated_split (fun x => x.claimed (s.claimListOf e.cls) s.time (s.klass e.cls).settings.limit) (e := e) rfl hothers
  rw [← hsplit] at hentries
  rw [← hentries]
  rfl

/-- Settles O41: past the checks the order does what `claimEffect_eq` says. -/
theorem claimTakesTheNotice : Obligations.ClaimTakesTheNotice := by
  intro tag n pre e post s h hloss hup h0 hsplit hnumber hothers hstate
  have hentry : s.entry? n = some e :=
    entry?_eq_some h0 hsplit hnumber fun x hx => hothers x (List.mem_append_left post hx)
  rw [exec_claim h, settleOrder_take _ _ hloss hup hentry (decide_eq_true hstate)]
  subst hnumber
  rw [claimTaken_enterWindow _ _ hup, claimEffect_eq, claimedTable_eq hsplit hothers]
  simp only [SourceRecord.claimed]
  generalize Vector.ofFn _ = sources
  rfl

/-! ### The timers of an entry -/

theorem flags_of_repeated_notice (critical : Bool) : flagByte true ||| (flagByte critical <<< 1) = if critical then 3 else 1 := by
  cases critical <;> rfl

theorem noticePayload_again (e : NoticeEntry) : noticePayload e true
    = [e.number, byteOf e.cls.val, if e.critical then 3 else 1] ++ be32 e.firstPending
      ++ be32 (sourceSet fun i => decide (i ∈ e.sendList)) := by
  simp only [noticePayload, flags_of_repeated_notice, List.contains_eq_mem]

/-- Without a reported loss an answer timer's expiry is read by its entry (R70, R85). -/
theorem exec_answerTimerExpiry {s : State} {n : Byte} {e : NoticeEntry} (hloss : s.flight.loss = none) (hentry : s.entry? n = some e) :
    exec (.answerTimerExpiry n) s = if due s.time e.answerTimer then .next (s.answerExpired e) else .next s := by
  have htaken : s.takeLoss = s := by simp only [State.takeLoss, hloss]
  simp only [exec, execAnswerTimerExpiry, htaken, hentry]

theorem exec_serviceTimerExpiry {s : State} {n : Byte} {e : NoticeEntry} (hentry : s.entry? n = some e) :
    exec (.serviceTimerExpiry n) s = if due s.time e.serviceTimer then .next (s.serviceExpired e) else .next s := by
  simp only [exec, execServiceTimerExpiry, hentry]

/-- An entry updated within the table. -/
theorem updateEntry_split {s : State} {pre post : List NoticeEntry} {e : NoticeEntry} (hsplit : s.dispatcher.entries = pre ++ e :: post)
    (hothers : ∀ x ∈ pre ++ post, x.number ≠ e.number) (f : NoticeEntry → NoticeEntry) :
    s.updateEntry e.number f = { s with dispatcher := { s.dispatcher with entries := pre ++ [f e] ++ post } } := by
  have hentries := updated_split f (e := e) rfl hothers
  rw [← hsplit] at hentries
  rw [← hentries]
  rfl

/-- Settles O45, by the sent count for an answer timer. -/
theorem noticeTimersExpire : Obligations.NoticeTimersExpire := by
  intro pre e post s hsplit h0 hothers
  have hentry : s.entry? e.number = some e :=
    entry?_eq_some h0 hsplit rfl fun x hx => hothers x (List.mem_append_left post hx)
  have hservice := exec_serviceTimerExpiry hentry
  refine ⟨fun hdue hloss => ?answer, fun hdue => ?service, fun hloss => ?answerEarly, fun t ht hne hnear => ?early, fun hstopped => ?stopped⟩
  case answer =>
    rw [exec_answerTimerExpiry hloss hentry, hdue, due_of_eq, if_pos rfl]
    simp only [State.answerExpired, updateEntry_split hsplit hothers]
    refine ⟨fun hretry => ?_, fun hlast => ?_⟩
    · rw [if_pos hretry, noticePayload_again]
      rfl
    · rw [if_neg (Nat.not_le.mpr hlast)]
  case service =>
    rw [hservice, hdue, due_of_eq, if_pos rfl]
    simp only [State.serviceExpired, updateEntry_split hsplit hothers]
    rfl
  case answerEarly =>
    have hanswer := exec_answerTimerExpiry hloss hentry
    refine ⟨fun t ht hne hnear => ?_, fun hstopped => ?_⟩
    · rw [hanswer, ht, not_due_of_near hne hnear, if_neg nofun]
    · rw [hanswer, hstopped, not_due_none, if_neg nofun]
  case early => rw [hservice, ht, not_due_of_near hne hnear, if_neg nofun]
  case stopped => rw [hservice, hstopped, not_due_none, if_neg nofun]

end Sys2Proof.Proofs

/-! ## Requests, withdrawals, guards and PAIR-GRANT (O46 to O49) -/

namespace Sys2Proof.Proofs

open Sys2Proof Sys2Proof.Machine Sys2Proof.Laws

/-! ### A line gives its grant up -/

section Finish

variable {r : LineRecord} {now : Time}

theorem finish_of_granted_free (h : r.state = .granted) (hguard : r.pairing.guardTime = 0) :
    r.finish now = { r with state := .ready, notice := none } := by
  simp only [LineRecord.finish, if_pos h, LineRecord.endGrant, if_pos hguard]

theorem finish_of_granted_guarded (h : r.state = .granted) (hguard : r.pairing.guardTime ≠ 0) :
    r.finish now = { r with
      state := .guarding, waiting := false, notice := none, guardTimer := some (now + BitVec.ofNat 32 r.pairing.guardTime.toNat) } := by
  simp only [LineRecord.finish, if_pos h, LineRecord.endGrant, if_neg hguard, micros]

theorem finish_of_waiting (h : r.state = .guarding) (hwaiting : r.waiting = true) :
    r.finish now = { r with waiting := false, notice := none } := by
  have hnot : r.state ≠ .granted := by simp [h]
  simp only [LineRecord.finish, if_neg hnot, if_pos (And.intro h hwaiting), LineRecord.endWait]

/-- A line after its grant, or its wait for one, has ended (R92, R94). -/
def gaveUp (r : LineRecord) (now : Time) : LineRecord :=
  if r.pairing.guardTime = 0 then { r with state := .ready, notice := none }
  else { r with
    state := .guarding, waiting := false, notice := none, guardTimer := some (now + BitVec.ofNat 32 r.pairing.guardTime.toNat) }

/-- What the end of the grants that `held` selects does to a line, spelled out (R92). -/
def finished (held : Prop) [Decidable held] (r : LineRecord) (now : Time) : LineRecord :=
  if held ∧ r.state = .granted then gaveUp r now
  else if held ∧ r.state = .guarding ∧ r.waiting = true then { r with waiting := false, notice := none }
  else r

theorem finish_eq_finished (held : Prop) [Decidable held] (r : LineRecord) (now : Time) :
    (if held then r.finish now else r) = finished held r now := by
  by_cases hn : held
  · simp only [finished, hn, true_and, if_true]
    rfl
  · simp only [finished, hn, false_and, if_false]

end Finish

/-! ### Requests -/

theorem setLine_line_eq (s : State) (g : LineNo) : s.setLine g (s.line g) = s := by
  simp [State.setLine, State.line]

section GrantRequest

variable {s : State} {i : SourceNo} {n : Byte} {rest : List GrantAsk}

theorem exec_grantRequest (h : s.flight.asks = .grant i n :: rest) :
    exec .grantRequest s = .next (({ s with flight := { s.flight with asks := rest } } : State).takeGrant i n) := by
  simp only [exec, execGrantRequest, State.popAsk, h, List.head?_cons, List.tail_cons]

theorem exec_grantEndRequest (h : s.flight.asks = .finish n :: rest) :
    exec .grantEndRequest s = .next (({ s with flight := { s.flight with asks := rest } } : State).takeFinish n) := by
  simp only [exec, execGrantEndRequest, State.popAsk, h, List.head?_cons, List.tail_cons]

theorem exec_grantRequest_of_finish (h : s.flight.asks = .finish n :: rest) : exec .grantRequest s = .next s := by
  simp only [exec, execGrantRequest, h, List.head?_cons]

theorem exec_grantEndRequest_of_grant (h : s.flight.asks = .grant i n :: rest) : exec .grantEndRequest s = .next s := by
  simp only [exec, execGrantEndRequest, h, List.head?_cons]

end GrantRequest

theorem takeFinish_eq (s : State) (n : Byte) :
    s.takeFinish n = { s with lines := s.lines.map fun r => finished (r.notice = some n) r s.time } := by
  simp only [State.takeFinish, finish_eq_finished]

/-- Settles O46, by the request that is the oldest and the line it reaches. -/
theorem grantRequestsActOnTheLines : Obligations.GrantRequestsActOnTheLines := by
  intro s n rest popped
  refine ⟨fun i hasks => ⟨exec_grantEndRequest_of_grant hasks, fun hnone => ?unpaired, fun g hg hleast => ⟨?withdrawn, ?granted⟩⟩,
    fun hasks => ⟨exec_grantRequest_of_finish hasks, ?finish⟩, fun hasks => ?none⟩
  case unpaired => rw [exec_grantRequest hasks, takeGrant_of_none (s := popped) (pairedLine_eq_none_of_forall hnone)]
  case withdrawn =>
    intro hoption hlevel hlive htold
    have hline : popped.pairedLine i = some g := pairedLine_eq_some_of_least hg hleast
    have happlies : popped.withdrawApplies i g = true := Bool.and_eq_true_iff.mpr ⟨hoption, hlevel⟩
    rw [exec_grantRequest hasks, takeGrant_of_withdrawn (s := popped) n hline happlies hlive htold]
    rfl
  case granted =>
    intro hgrants
    have hline : popped.pairedLine i = some g := pairedLine_eq_some_of_least hg hleast
    have hgrants' : popped.withdrawApplies i g = false ∨ (popped.src i).live = true ∨ i ∈ popped.flight.withdrawals := by
      obtain h | h | h := hgrants
      · exact .inl (Bool.and_eq_false_iff.mpr (.inl h))
      · exact .inl (Bool.and_eq_false_iff.mpr (.inr h))
      · exact .inr h
    have htaken : exec .grantRequest s = .next (popped.setLine g ((s.line g).grant n)) := by
      rw [exec_grantRequest hasks, takeGrant_of_granted (s := popped) n hline hgrants']
      rfl
    refine ⟨fun hstate => ?_, fun hstate => ?_, fun hstate => ?_⟩
    all_goals rw [htaken]
    all_goals simp only [LineRecord.grant, hstate]
    exact congrArg Host.Outcome.next (setLine_line_eq popped g)
  case finish =>
    rw [exec_grantEndRequest hasks, takeFinish_eq]
    rfl
  case none =>
    constructor
    · simp only [exec, execGrantRequest, hasks, List.head?_nil]
    · simp only [exec, execGrantEndRequest, hasks, List.head?_nil]

/-! ### Withdrawals -/

section Withdrawal

variable {s : State} {i : SourceNo} {g : LineNo}

theorem takeWithdrawal_of_none (h : s.pairedLine i = none) : s.takeWithdrawal i = s := by
  simp only [State.takeWithdrawal, h]

theorem takeWithdrawal_of_unmoved (hline : s.pairedLine i = some g)
    (h : s.withdrawApplies i g = false ∨ (s.line g).holds = false) : s.takeWithdrawal i = s := by
  have htest : (s.withdrawApplies i g && (s.line g).holds) = false := Bool.and_eq_false_iff.mpr h
  simp only [State.takeWithdrawal, hline, htest, Bool.false_eq_true, if_false]

theorem takeWithdrawal_of_ended (hline : s.pairedLine i = some g) (happlies : s.withdrawApplies i g = true)
    (hholds : (s.line g).holds = true) :
    s.takeWithdrawal i = (s.setLine g ((s.line g).finish s.time)).handGrantEnd i g := by
  simp only [State.takeWithdrawal, hline, happlies, hholds, Bool.and_self, if_true]

theorem exec_endOnWithdraw (h : i ∈ s.flight.withdrawals) : exec (.endOnWithdraw i) s
    = .next (({ s with flight := { s.flight with withdrawals := s.flight.withdrawals.erase i } } : State).takeWithdrawal i) :=
  if_pos (List.contains_iff_mem.mpr h)

theorem exec_endOnWithdraw_of_not_mem (h : i ∉ s.flight.withdrawals) : exec (.endOnWithdraw i) s = .next s :=
  if_neg fun hmem => h (List.contains_iff_mem.mp hmem)

end Withdrawal

/-- Settles O47, by the paired line's option, mode and state. -/
theorem withdrawalsEndGrantsWhereSet : Obligations.WithdrawalsEndGrantsWhereSet := by
  intro s i taken
  refine ⟨exec_endOnWithdraw_of_not_mem, fun hmem hnone => ?unpaired, fun hmem g hg hleast => ?paired⟩
  case unpaired => rw [exec_endOnWithdraw hmem, takeWithdrawal_of_none (s := taken) (pairedLine_eq_none_of_forall hnone)]
  case paired =>
    intro r ended
    have hline : taken.pairedLine i = some g := pairedLine_eq_some_of_least hg hleast
    have hended : r.pairing.endOnWithdraw = true → (s.steer i).mode.isLevel = true → r.holds = true →
        exec (.endOnWithdraw i) s = ended (r.finish s.time) := fun hoption hlevel hholds => by
      rw [exec_endOnWithdraw hmem, takeWithdrawal_of_ended hline (Bool.and_eq_true_iff.mpr ⟨hoption, hlevel⟩) hholds]
      rfl
    refine ⟨fun hkept => ?_, fun hoption hlevel hstate hguard => ?_, fun hoption hlevel hstate hguard => ?_,
      fun hoption hlevel hstate hwaiting => ?_⟩
    · have hunmoved : taken.withdrawApplies i g = false ∨ (taken.line g).holds = false := by
        obtain h | h | h | h | ⟨h, hwaiting⟩ := hkept
        · exact .inl (Bool.and_eq_false_iff.mpr (.inl h))
        · exact .inl (Bool.and_eq_false_iff.mpr (.inr h))
        · exact .inr (by simp [LineRecord.holds, show (taken.line g).state = .unpaired from h])
        · exact .inr (by simp [LineRecord.holds, show (taken.line g).state = .ready from h])
        · exact .inr (by simp [LineRecord.holds, show (taken.line g).state = .guarding from h,
            show (taken.line g).waiting = false from hwaiting])
      rw [exec_endOnWithdraw hmem, takeWithdrawal_of_unmoved hline hunmoved]
    · rw [hended hoption hlevel (by simp [LineRecord.holds, hstate]), finish_of_granted_free hstate hguard]
    · rw [hended hoption hlevel (by simp [LineRecord.holds, hstate]), finish_of_granted_guarded hstate hguard]
    · rw [hended hoption hlevel (by simp [LineRecord.holds, hstate, hwaiting]), finish_of_waiting hstate hwaiting]

/-! ### Guards and outputs -/

theorem exec_guardExpiry (g : LineNo) (s : State) : exec (.guardExpiry g) s
    = if due s.time (s.line g).guardTimer then .next (s.setLine g (s.line g).guardEnds) else .next s := rfl

theorem otherLevel_eq_high_iff (p : Polarity) : otherLevel p.activeLevel = .high ↔ p = .activeLow := by cases p <;> decide

theorem activeLevel_eq_high_iff (p : Polarity) : p.activeLevel = .high ↔ p = .activeHigh := by cases p <;> decide

theorem output_eq_high_iff (r : LineRecord) : r.output = .high ↔
    (r.state = .granted ∧ r.pairing.polarity = .activeHigh) ∨ (r.state ≠ .granted ∧ r.pairing.polarity = .activeLow) := by
  unfold LineRecord.output
  by_cases hstate : r.state = .granted
  · simp [hstate, activeLevel_eq_high_iff]
  · simp [hstate, otherLevel_eq_high_iff]

/-- Settles O48, by the waiting flag and the pairing. -/
theorem guardsExpireAndOutputsFollow : Obligations.GuardsExpireAndOutputsFollow := by
  intro g s r
  refine ⟨fun hstopped => ?stopped, fun t ht hne hnear => ?early, fun hdue => ?due, fun hreset => if_pos hreset, fun hrunning => ?output⟩
  case stopped => rw [exec_guardExpiry, hstopped, not_due_none, if_neg nofun]
  case early => rw [exec_guardExpiry, ht, not_due_of_near hne hnear, if_neg nofun]
  case due =>
    rw [exec_guardExpiry, hdue, due_of_eq, if_pos rfl]
    refine ⟨fun hwaiting => ?_, fun hfree hpaired => ?_, fun hfree hpaired => ?_⟩
    · rw [LineRecord.guardEnds, if_pos hwaiting]
    · rw [LineRecord.guardEnds, if_neg (Bool.eq_false_iff.mp hfree), if_pos (Option.isSome_iff_ne_none.mpr hpaired)]
    · rw [LineRecord.guardEnds, if_neg (Bool.eq_false_iff.mp hfree), if_neg (by simp [show (s.line g).pairing.source = none from hpaired])]
  case output =>
    rw [State.lineOutput, if_neg (Bool.eq_false_iff.mp hrunning), output_eq_high_iff]

/-! ### PAIR-GRANT -/

theorem lineNo?_of_eq {b : Byte} {g : LineNo} (h : b.toNat = g.val) : lineNo? b = some g := by
  simp only [lineNo?, h, g.isLt, dif_pos]

theorem lineNo?_of_le {b : Byte} (h : 8 ≤ b.toNat) : lineNo? b = none := dif_neg (Nat.not_lt.mpr h)

theorem polarity?_of_lt {p : Byte} (h : 1 < p.toNat) : polarity? p = none := by
  have h0 : p ≠ 0 := by bv_omega
  have h1 : p ≠ 1 := by bv_omega
  simp only [polarity?, if_neg h0, if_neg h1]

theorem pairing?_eq_none {i p g w : Byte} (h : (32 ≤ i.toNat ∧ i ≠ 0xFF) ∨ 1 < p.toNat ∨ 1 < w.toNat) : pairing? i p g w = none := by
  obtain ⟨hi, hne⟩ | hp | hw := h
  · simp only [pairing?, orNone?_of_none hne (sourceNo?_of_le hi)]
  · simp only [pairing?, polarity?_of_lt hp]
    cases orNone? sourceNo? i <;> rfl
  · simp only [pairing?, flag?_of_lt hw]
    cases orNone? sourceNo? i <;> cases polarity? p <;> rfl

theorem otherHolder_eq_some {s : State} {k h : LineNo} {x : Pairing} {j : SourceNo} (hx : x.source = some j) (hne : h ≠ k)
    (hh : (s.line h).pairing.source = some j) (hleast : ∀ y, y < h → y ≠ k → (s.line y).pairing.source ≠ some j) :
    s.otherHolder k x = some h := by
  simp only [State.otherHolder, hx, Option.bind_some]
  refine find?_finRange_eq_some (by simp [hne, hh]) fun y hy => ?_
  by_cases hk : y = k
  · simp [hk]
  · simp [hleast y hy hk]

theorem otherHolder_eq_none {s : State} {k : LineNo} {x : Pairing}
    (h : ∀ y, y ≠ k → x.source ≠ none → (s.line y).pairing.source ≠ x.source) : s.otherHolder k x = none := by
  cases hx : x.source with
  | none => simp [State.otherHolder, hx]
  | some j => simpa [State.otherHolder, hx] using fun y hy => hx ▸ h y hy (by simp [hx])

theorem repair_eq (r : LineRecord) (x : Pairing) : r.repair x = { r with
    pairing := x
    state := if r.state = .guarding then .guarding else if x.source = none then .unpaired else .ready } := by
  unfold LineRecord.repair
  split
  · rename_i hstate
    rw [← hstate]
  · cases x.source <;> rfl

/-- The requests handed are taken before the order, whatever becomes of it (log 13). -/
theorem exec_pairGrant {s : State} (h : s.admits) (tag b i p g w : Byte) :
    exec (.pairGrant tag [b, i, p, g, w]) s
      = .next (pairGrantOrder { kind := 0x0E, tag := tag } b (pairing? i p g w) (s.enterWindow { kind := 0x0E, tag := tag })) :=
  congrArg Host.Outcome.next (takeOrder_of_admits h ..)

section Order

variable {s : State} {b : Byte} {k h : LineNo} {x : Pairing} (o : Order)

theorem pairGrantOrder_beyond (hb : 8 ≤ b.toNat) (p : Option Pairing) :
    pairGrantOrder o b p (s.enterWindow o) = (s.takeAsks.answered o .range (b :: (freshLine factoryPairing).bytes)).transmit := by
  simp only [pairGrantOrder, lineNo?_of_le hb, takeAsks_enterWindow, enterWindow_reply]

variable (hb : b.toNat = k.val)
include hb

theorem pairGrantOrder_range :
    pairGrantOrder o b none (s.enterWindow o) = (s.takeAsks.answered o .range (b :: (s.takeAsks.line k).bytes)).transmit := by
  simp only [pairGrantOrder, lineNo?_of_eq hb, takeAsks_enterWindow]
  rfl

theorem pairGrantOrder_inUse (hholds : (s.takeAsks.line k).holds = true) :
    pairGrantOrder o b (some x) (s.enterWindow o) = (s.takeAsks.answered o .inUse (b :: (s.takeAsks.line k).bytes)).transmit := by
  simp only [pairGrantOrder, lineNo?_of_eq hb, takeAsks_enterWindow]
  exact if_pos hholds

variable (hfree : (s.takeAsks.line k).holds = false)
include hfree

theorem pairGrantOrder_conflict (hother : s.takeAsks.otherHolder k x = some h) :
    pairGrantOrder o b (some x) (s.enterWindow o)
      = (s.takeAsks.answered o .conflict (b :: (s.takeAsks.line k).bytes ++ [byteOf h.val])).transmit := by
  have hother' : (s.takeAsks.enterWindow o).otherHolder k x = some h := hother
  simp only [pairGrantOrder, lineNo?_of_eq hb, takeAsks_enterWindow, hother']
  exact if_neg (Bool.eq_false_iff.mp hfree)

theorem pairGrantOrder_ok (hother : s.takeAsks.otherHolder k x = none) :
    pairGrantOrder o b (some x) (s.enterWindow o)
      = ((s.takeAsks.setLine k ((s.takeAsks.line k).repair x)).answered o .ok (b :: ((s.takeAsks.line k).repair x).bytes)).transmit := by
  have hother' : (s.takeAsks.enterWindow o).otherHolder k x = none := hother
  simp only [pairGrantOrder, lineNo?_of_eq hb, takeAsks_enterWindow, hother']
  exact if_neg (Bool.eq_false_iff.mp hfree)

end Order

/-- A request to grant taken alone is the first of the requests taken together. -/
theorem takeAsks_of_grantRequest {s t : State} {i : SourceNo} {n : Byte} {rest : List GrantAsk}
    (hasks : s.flight.asks = .grant i n :: rest) (ht : exec .grantRequest s = .next t) : s.takeAsks = t.takeAsks := by
  have htaken : exec .grantRequest s = .next (s.popAsk.takeGrant i n) := by
    simp only [exec, execGrantRequest, hasks, List.head?_cons]
  obtain rfl : s.popAsk.takeGrant i n = t := Host.Outcome.next.inj (htaken.symm.trans ht)
  exact takeAsks_of_cons hasks

theorem takeAsks_of_grantEndRequest {s t : State} {n : Byte} {rest : List GrantAsk}
    (hasks : s.flight.asks = .finish n :: rest) (ht : exec .grantEndRequest s = .next t) : s.takeAsks = t.takeAsks := by
  have htaken : exec .grantEndRequest s = .next (s.popAsk.takeFinish n) := by
    simp only [exec, execGrantEndRequest, hasks, List.head?_cons]
  obtain rfl : s.popAsk.takeFinish n = t := Host.Outcome.next.inj (htaken.symm.trans ht)
  exact takeAsks_of_cons hasks

/-- Settles O49: the requests one by one, then the checks in their order. -/
theorem pairGrantChecksThenPairs : Obligations.PairGrantChecksThenPairs := by
  intro tag b i p g w s
  refine ⟨takeAsks_of_nil, fun t ⟨_, _, _, hasks⟩ ht => takeAsks_of_grantRequest hasks ht,
    fun t ⟨_, _, hasks⟩ ht => takeAsks_of_grantEndRequest hasks ht, fun h => ?order⟩
  case order =>
    intro u row answer
    have hrow : exec row s = _ := exec_pairGrant h tag b i p g w
    rw [hrow]
    refine ⟨fun hb => ?beyond, fun k hb hrange => ?range, fun k x hb hx hholds => ?inUse,
      fun k y x j hb hx hfree hsource hne hy hleast => ?conflict, fun k x hb hx hfree hnone => ?ok⟩
    case beyond => rw [pairGrantOrder_beyond _ hb]; rfl
    case range => rw [pairing?_eq_none hrange, pairGrantOrder_range _ hb]
    case inUse => rw [hx, pairGrantOrder_inUse _ hb hholds]
    case conflict => rw [hx, pairGrantOrder_conflict _ hb hfree (otherHolder_eq_some hsource hne hy hleast)]
    case ok => rw [hx, pairGrantOrder_ok _ hb hfree (otherHolder_eq_none hnone), repair_eq]

end Sys2Proof.Proofs

/-! ## The end of a session (O54, O55) -/

namespace Sys2Proof.Proofs

open Sys2Proof Sys2Proof.Machine Sys2Proof.Laws

/-! ### What the requests change -/

/-- The requests taken change the lines and the records handed, and are gone (R91, R92). -/
theorem takeAsks_eq (s : State) : s.takeAsks =
    { s with lines := s.takeAsks.lines, flight := { s.flight with asks := [], arrivals := s.takeAsks.flight.arrivals } } := by
  have hframe := takeAsks_frame s
  have hasks := takeAsks_asks s
  generalize s.takeAsks = t at hframe hasks ⊢
  obtain ⟨time, steering, sources, classes, alarm, dispatcher, lines, journal, link, session, store, power, flight, choices, pending⟩ := t
  obtain ⟨reports, asks, withdrawals, arrivals, loss⟩ := flight
  dsimp only at hframe hasks
  obtain ⟨rfl, rfl, rfl, rfl, rfl, rfl, rfl, rfl, rfl, rfl, rfl, rfl, rfl, rfl, rfl, rfl⟩ := hframe
  rw [hasks]

/-! ### Teardown -/

/-- What teardown makes of the classes (R84 step 4). -/
def tornClasses (s : State) : Vector ClassRecord 16 := Vector.ofFn fun d => (s.klass d).tornDown s.time (s.contributors d)

theorem tornClasses_congr {s t : State} (htime : t.time = s.time) (hsteering : t.steering = s.steering) (hsources : t.sources = s.sources)
    (hclasses : t.classes = s.classes) : tornClasses t = tornClasses s := by
  simp only [tornClasses, klass_congr hclasses, htime, contributors_congr hsteering hsources]

theorem teardown_eq_torn (s : State) (x : EndCause) (k : RecordKind) (c : Option ClassNo) (n : Option Byte) :
    s.teardown x k c n = ((({ s.endGrants with
      flight := { s.endGrants.flight with loss := none }
      dispatcher := { s.endGrants.dispatcher with entries := [], sendList := [] }
      classes := tornClasses s.endGrants
      session := { s.endGrants.session with up := false, endCause := x } } : State).detach fun _ => true).hand
        { time := s.endGrants.time, kind := k, cls := c, notice := n
          count := some (BitVec.ofNat 32 s.dispatcher.entries.length) }).evalAttn := rfl

theorem detach_all_eq (t : Sending) : (t.detach fun _ => true) =
    match t.origin with
    | .notice (some _) => { t with origin := .notice none }
    | _ => t := by
  obtain ⟨frame, origin, ends⟩ := t
  cases origin with
  | notice n => cases n <;> rfl
  | start | answer _ _ | overdue => rfl

/-- The requests of the session's end are those handed before and those of the entries (R84 step 3). -/
theorem endGrants_eq (s : State) : s.endGrants =
    { s with lines := s.endGrants.lines, flight := { s.flight with asks := [], arrivals := s.endGrants.flight.arrivals } } :=
  takeAsks_eq _

/-- What teardown changes, block by block (R84, R140). -/
theorem teardown_eq (s : State) (x : EndCause) (k : RecordKind) (c : Option ClassNo) (n : Option Byte) :
    s.teardown x k c n = ({ s with
      dispatcher := { s.dispatcher with entries := [], sendList := [] }
      classes := tornClasses s
      lines := s.endGrants.lines
      link := { s.link with tx := s.link.tx.map fun t => t.detach fun _ => true }
      session := { s.session with up := false, endCause := x }
      flight := { s.flight with
        loss := none
        asks := []
        arrivals := s.endGrants.flight.arrivals ++
          [{ time := s.time, kind := k, cls := c, notice := n, count := some (BitVec.ofNat 32 s.dispatcher.entries.length) }] } } :
        State).evalAttn := by
  have hclasses : tornClasses s.endGrants = tornClasses s := tornClasses_congr (by simp) (by simp) (by simp) (by simp)
  rw [teardown_eq_torn, hclasses, endGrants_eq]
  generalize tornClasses s = classes
  rfl

theorem tornDown_eq (r : ClassRecord) (now : Time) (found : List SourceNo) : r.tornDown now found =
    if r.state = .notified ∨ r.state = .held then r.settleContinued found
    else if r.state = .inService ∨ r.state = .expired then r.settleFresh now found
    else r := by
  cases hstate : r.state <;> simp [ClassRecord.tornDown, hstate]

/-- Teardown does not read the order window. -/
theorem teardown_enterWindow (s : State) (o : Order) (x : EndCause) (k : RecordKind) (c : Option ClassNo) (n : Option Byte) :
    (s.enterWindow o).teardown x k c n = (s.teardown x k c n).enterWindow o := by
  have hends : (s.enterWindow o).endGrants = s.endGrants.enterWindow o := takeAsks_enterWindow (s.ask _) o
  have hclasses : tornClasses (s.enterWindow o) = tornClasses s := tornClasses_congr rfl rfl rfl rfl
  rw [teardown_eq, teardown_eq, hends, hclasses]
  generalize tornClasses s = classes
  rfl

theorem teardown_session (s : State) (x : EndCause) (k : RecordKind) (c : Option ClassNo) (n : Option Byte) :
    (s.teardown x k c n).session.up = false ∧ (s.teardown x k c n).session.endCause = x := by
  rw [teardown_eq]
  exact ⟨rfl, rfl⟩

/-! ### CLOSE and SESSION_LOST -/

theorem exec_closeSession {s : State} (h : s.admits) (tag : Byte) : exec (.closeSession tag []) s
    = .next (closeOrder { kind := 0x04, tag := tag } (s.enterWindow { kind := 0x04, tag := tag })) :=
  congrArg Host.Outcome.next (takeOrder_of_admits h ..)

theorem closeOrder_up {s : State} (o : Order) (hloss : s.flight.loss = none) (hup : s.session.up = true) :
    closeOrder o (s.enterWindow o) = ((s.teardown .closed .sessionClose none none).answered o .ok
      [0, 1, byteOf s.dispatcher.entries.length]).transmit := by
  obtain ⟨hdown, hcause⟩ := teardown_session s .closed .sessionClose none none
  simp only [closeOrder, takeLoss_enterWindow o hloss, teardown_enterWindow, enterWindow_frame, hdown, hcause, enterWindow_reply]
  exact if_pos hup

theorem closeOrder_down {s : State} (o : Order) (hloss : s.flight.loss = none) (hdown : s.session.up = false) :
    closeOrder o (s.enterWindow o) = (s.answered o .wrongState [0, s.session.endCause.code, 0]).transmit := by
  have hdown' : (s.enterWindow o).session.up = false := hdown
  simp only [closeOrder, takeLoss_enterWindow o hloss, hdown', Bool.false_eq_true, if_false, enterWindow_reply]
  rfl

/-! ### The grants of the entries -/

/-- A line that has given its grant up has none to give (R92). -/
theorem finish_finish (r : LineRecord) (now : Time) : (r.finish now).finish now = r.finish now := by
  cases hholds : r.holds with
  | false => rw [finish_of_not_holds hholds, finish_of_not_holds hholds]
  | true =>
    refine finish_of_not_holds ?_ now
    obtain hstate | ⟨hstate, hwaiting⟩ := holds_iff.mp hholds
    · by_cases hguard : r.pairing.guardTime = 0
      · rw [finish_of_granted_free hstate hguard]
        rfl
      · rw [finish_of_granted_guarded hstate hguard]
        rfl
    · rw [finish_of_waiting hstate hwaiting]
      simp [LineRecord.holds, hstate]

/-- Requests to end the grants of some entries are together the end of the grants of any of them (R92). -/
theorem foldl_finish (l : List Byte) (r : LineRecord) (now : Time) :
    l.foldl (fun r n => if r.notice = some n then r.finish now else r) r = if ∃ n ∈ l, r.notice = some n then r.finish now else r := by
  induction l generalizing r with
  | nil => simp
  | cons n rest ih =>
    rw [List.foldl_cons, ih]
    by_cases hn : r.notice = some n
    · rw [if_pos hn, finish_finish, ite_self, if_pos ⟨n, by simp, hn⟩]
    · simp only [List.mem_cons, exists_eq_or_imp, hn, false_or, if_false]

theorem takeAsks_of_finishes {s : State} {l : List Byte} (hasks : s.flight.asks = l.map .finish) : s.takeAsks = { s with
    lines := s.lines.map fun r => if ∃ n ∈ l, r.notice = some n then r.finish s.time else r
    flight := { s.flight with asks := [] } } := by
  simp only [← foldl_finish]
  induction l generalizing s with
  | nil =>
    have hnone : s.flight.asks = [] := hasks
    have hlines : s.lines.map (fun r => r) = s.lines := Vector.map_id' s.lines
    simp only [List.foldl_nil, takeAsks_of_nil hnone, hlines, ← hnone]
  | cons n rest ih =>
    have hlines : (s.popAsk.takeAsk (.finish n)).lines = s.lines.map fun r => if r.notice = some n then r.finish s.time else r := rfl
    rw [takeAsks_of_cons hasks, ih (by simp [State.popAsk, hasks]), hlines, Vector.map_map]
    rfl

theorem finished_congr {p q : Prop} [Decidable p] [Decidable q] (h : p ↔ q) (r : LineRecord) (now : Time) :
    finished p r now = finished q r now := by
  by_cases hp : p
  · simp only [finished, hp, h.mp hp, true_and]
  · simp only [finished, hp, mt h.mpr hp, false_and]

/-- Settles O54: `teardown_eq` says what ends, and `takeAsks_of_finishes` what the end of the grants is. -/
theorem teardownEndsTheSession : Obligations.TeardownEndsTheSession := by
  intro tag s o w torn
  have htorn : ∀ x k c n, s.teardown x k c n = torn x k c n := fun x k c n => by
    rw [teardown_eq]
    simp only [tornClasses, tornDown_eq, detach_all_eq, torn]
    generalize Vector.ofFn _ = classes
    rfl
  refine ⟨fun h hloss hup => ?up, fun h hloss hdown => ?down, fun l hloss => ?lost, fun hloss => ?notLost, fun hasks => ?lines,
    fun hlines hgrants g => endGrants_holds hlines (grantsLaw_iff.mp hgrants).1 g⟩
  case up => rw [exec_closeSession h, closeOrder_up _ hloss hup, htorn]
  case down => rw [exec_closeSession h, closeOrder_down _ hloss hdown]
  case lost => simp only [exec, execSessionLost, State.takeLoss, hloss, htorn]
  case notLost => simp only [exec, execSessionLost, State.takeLoss, hloss]
  case lines =>
    have hnumbers : ({ s with flight := { s.flight with
        asks := s.flight.asks ++ s.dispatcher.entries.map fun e => .finish e.number } } : State).flight.asks
          = (s.dispatcher.entries.map (·.number)).map .finish := by simp [hasks]
    have hheld : ∀ r : LineRecord, (∃ n ∈ s.dispatcher.entries.map (·.number), r.notice = some n)
        ↔ ∃ e ∈ s.dispatcher.entries, r.notice = some e.number := fun r => by simp
    have hw := takeAsks_of_finishes hnumbers
    simp only [finish_eq_finished, fun r now => finished_congr (hheld r) r now] at hw
    refine hw.trans ?_
    simp only [← hasks]
    rfl

/-! ### A loss is taken once -/

theorem takeLoss_of_loss {s : State} {l : LossReport} (h : s.flight.loss = some l) :
    s.takeLoss = s.teardown .lost .sessionLost (some l.cls) (some l.notice) := by
  simp only [State.takeLoss, h]

theorem takeLoss_of_none {s : State} (h : s.flight.loss = none) : s.takeLoss = s := by
  simp only [State.takeLoss, h]

theorem takeLoss_loss (s : State) : s.takeLoss.flight.loss = none := by
  cases hloss : s.flight.loss with
  | none => rwa [takeLoss_of_none hloss]
  | some l =>
    rw [takeLoss_of_loss hloss, teardown_eq]
    rfl

theorem takeLoss_takeLoss (s : State) : s.takeLoss.takeLoss = s.takeLoss := takeLoss_of_none (takeLoss_loss s)

/-- A loss is taken alike before an order enters the window and after. -/
theorem enterWindow_takeLoss (s : State) (o : Order) : (s.enterWindow o).takeLoss = s.takeLoss.enterWindow o := by
  cases hloss : s.flight.loss with
  | none => rw [takeLoss_of_none hloss, takeLoss_of_none (s := s.enterWindow o) hloss]
  | some l => rw [takeLoss_of_loss hloss, takeLoss_of_loss (s := s.enterWindow o) hloss, teardown_enterWindow]

theorem takeLoss_admits {s : State} (h : s.admits) : s.takeLoss.admits := by
  cases hloss : s.flight.loss with
  | none => rwa [takeLoss_of_none hloss]
  | some l =>
    rw [takeLoss_of_loss hloss, State.admits, teardown_link]
    exact h

/-- An order that takes a loss first does what it does after the loss. -/
theorem takeOrder_takeLoss {s : State} (h : s.admits) (kind tag : Byte) (payload : List Byte) {body : Order → State → State}
    (hbody : ∀ o u, body o u = body o u.takeLoss) : s.takeOrder kind tag payload body = s.takeLoss.takeOrder kind tag payload body := by
  rw [takeOrder_of_admits h, takeOrder_of_admits (takeLoss_admits h), hbody, enterWindow_takeLoss]

theorem settleOrder_takeLoss (o : Order) (n : Byte) (admits : EntryState → Bool) (take : NoticeEntry → State → State) (u : State) :
    settleOrder o n admits take u = settleOrder o n admits take u.takeLoss := by
  simp only [settleOrder, takeLoss_takeLoss]

theorem openOrder_takeLoss (o : Order) (p : Option SessionParams) (u : State) : openOrder o p u = openOrder o p u.takeLoss := by
  simp only [openOrder, takeLoss_takeLoss]

theorem closeOrder_takeLoss (o : Order) (u : State) : closeOrder o u = closeOrder o u.takeLoss := by
  simp only [closeOrder, takeLoss_takeLoss]

/-- Settles O55: each of the rows takes a loss before anything else. -/
theorem reportedLossIsTakenFirst : Obligations.ReportedLossIsTakenFirst := by
  intro tag n hi lo c a r m l s t h hloss ht
  obtain rfl : s.takeLoss = t := Host.Outcome.next.inj ht
  refine ⟨fun row hrow => ?order, ?timer⟩
  case order =>
    simp only [List.mem_cons, List.not_mem_nil, or_false] at hrow
    obtain rfl | rfl | rfl | rfl | rfl := hrow
    · exact congrArg Host.Outcome.next (takeOrder_takeLoss h _ _ _ fun o u => settleOrder_takeLoss o n _ _ u)
    · exact congrArg Host.Outcome.next (takeOrder_takeLoss h _ _ _ fun o u => settleOrder_takeLoss o n _ _ u)
    · exact congrArg Host.Outcome.next (takeOrder_takeLoss h _ _ _ fun o u => settleOrder_takeLoss o n _ _ u)
    · exact congrArg Host.Outcome.next (takeOrder_takeLoss h _ _ _ fun o u => openOrder_takeLoss o _ u)
    · exact congrArg Host.Outcome.next (takeOrder_takeLoss h _ _ _ fun o u => closeOrder_takeLoss o u)
  case timer => simp only [exec, execAnswerTimerExpiry, takeLoss_takeLoss]

end Sys2Proof.Proofs

/-! ## The journal, STATUS and the profile store (O23, O50, O56, O57) -/

namespace Sys2Proof.Proofs

open Sys2Proof Sys2Proof.Machine Sys2Proof.Laws

/-! ### JOURNAL_ARRIVAL -/

section Arrive

variable {j : Journal} (b : RecordBody)

theorem arrive_of_full (h : ¬ (j.next - j.oldest).toNat < 2147483647) : j.arrive b = j := if_pos (Nat.not_lt.mp h)

theorem arrive_of_room (h : (j.next - j.oldest).toNat < 2147483647) (hlength : j.records.length ≤ 126) :
    j.arrive b = { records := j.records ++ [{ seq := j.next, body := b }], next := j.next + 1 } :=
  (if_neg (Nat.not_le.mpr h)).trans (if_pos hlength)

variable (h : (j.next - j.oldest).toNat < 2147483647) (hlength : 127 ≤ j.records.length) {pre : List JournalRecord} {r : JournalRecord}
  (hrecords : j.records = pre ++ [r])
include h hlength hrecords

theorem arrive_of_gap (hgap : r.body.kind = .gap) : j.arrive b
    = { records := pre ++ [{ r with body := { r.body with count := r.body.count.map (· + 1) } }], next := j.next + 1 } := by
  have hfull : ¬ 2147483647 ≤ j.covered := Nat.not_le.mpr h
  have hmany : ¬ j.records.length ≤ 126 := by omega
  simp only [Journal.arrive, if_neg hfull, if_neg hmany]
  simp only [hrecords, List.getLast?_concat, if_pos hgap, List.dropLast_concat]
  rfl

theorem arrive_of_no_gap (hgap : r.body.kind ≠ .gap) : j.arrive b
    = { records := j.records ++ [{ seq := j.next, body := { time := b.time, kind := .gap, count := some 1 } }], next := j.next + 1 } := by
  have hfull : ¬ 2147483647 ≤ j.covered := Nat.not_le.mpr h
  have hmany : ¬ j.records.length ≤ 126 := by omega
  have hlast : j.records.getLast? = some r := by rw [hrecords, List.getLast?_concat]
  simp only [Journal.arrive, if_neg hfull, if_neg hmany, hlast, if_neg hgap]
  rfl

end Arrive

/-- Settles O50, by the room and the newest record. -/
theorem journalArrivalsFollowR104AndR105 : Obligations.JournalArrivalsFollowR104AndR105 := by
  intro s b rest harrivals j taken room
  have htaken : exec .journalArrival s = taken (j.arrive b) := by
    simp only [exec, execJournalArrival, harrivals]
    rfl
  rw [htaken]
  refine ⟨fun h => ?_, fun h hlength => ?_, fun h hlength pre r hrecords hgap => ?_, fun h hlength pre r hrecords hgap => ?_⟩
  · rw [arrive_of_full b h]
  · rw [arrive_of_room b h hlength]
  · rw [arrive_of_gap b h hlength hrecords hgap]
  · rw [arrive_of_no_gap b h hlength.ge hrecords hgap]

/-! ### STATUS -/

/-- Settles O23: an admitted STATUS is its answer and nothing else. -/
theorem statusReportsTheWholePart : Obligations.StatusReportsTheWholePart := by
  intro tag s h
  exact congrArg Host.Outcome.next (takeOrder_of_admits h ..)

/-! ### Store operations as they begin -/

theorem slotNo?_of_eq {b : Byte} {n : SlotNo} (h : b.toNat = n.val) : slotNo? b = some n := by
  simp only [slotNo?, h, n.isLt, dif_pos]

theorem slotNo?_of_le {b : Byte} (h : 4 ≤ b.toNat) : slotNo? b = none := dif_neg (Nat.not_lt.mpr h)

theorem exists_slotNo? {b : Byte} (h : b.toNat < 4) : ∃ n, slotNo? b = some n := ⟨⟨b.toNat, h⟩, slotNo?_of_eq rfl⟩

theorem busy_of_ne_none {x : Operation} (h : x ≠ .none) : x.busy = true := by
  cases x with
  | none => exact absurd rfl h
  | save _ _ _ _ | setBoot _ _ _ => rfl

theorem exec_saveProfile {s : State} (h : s.admits) (tag b : Byte) : exec (.saveProfile tag [b]) s
    = .next (saveOrder { kind := 0x13, tag := tag } b (s.enterWindow { kind := 0x13, tag := tag })) :=
  congrArg Host.Outcome.next (takeOrder_of_admits h ..)

theorem exec_setBoot {s : State} (h : s.admits) (tag b : Byte) : exec (.setBoot tag [b]) s
    = .next (setBootOrder { kind := 0x15, tag := tag } b (s.enterWindow { kind := 0x15, tag := tag })) :=
  congrArg Host.Outcome.next (takeOrder_of_admits h ..)

section Begin

variable {s : State} {b : Byte} {n : SlotNo} (o : Order)

theorem saveOrder_range (hb : slotNo? b = none) : saveOrder o b (s.enterWindow o) = (s.answered o .range [b]).transmit := by
  simp only [saveOrder, hb, enterWindow_reply]

theorem saveOrder_busy (hb : slotNo? b = some n) (hbusy : s.store.operation.busy = true) :
    saveOrder o b (s.enterWindow o) = (s.answered o .busy (b :: s.store.operation.bytes)).transmit := by
  simp only [saveOrder, hb]
  exact if_pos hbusy

theorem saveOrder_begins (hb : slotNo? b = some n) (hfree : s.store.operation = .none) :
    saveOrder o b (s.enterWindow o) = (s.beginSave o n).windowed o := by
  have hfree' : ¬ (s.enterWindow o).store.operation.busy = true := by simp [hfree, Operation.busy]
  simp only [saveOrder, hb, if_neg hfree']
  rfl

variable {d : Option SlotNo}

theorem setBootOrder_range (hb : orNone? slotNo? b = none) : setBootOrder o b (s.enterWindow o) = (s.answered o .range [b]).transmit := by
  simp only [setBootOrder, hb, enterWindow_reply]

theorem setBootOrder_busy (hb : orNone? slotNo? b = some d) (hbusy : s.store.operation.busy = true) :
    setBootOrder o b (s.enterWindow o)
      = (s.answered o .busy (numberByte s.store.boot :: s.store.operation.bytes)).transmit := by
  simp only [setBootOrder, hb]
  exact if_pos hbusy

theorem setBootOrder_begins (hb : orNone? slotNo? b = some d) (hfree : s.store.operation = .none) :
    setBootOrder o b (s.enterWindow o) = ({ s with
      store := { s.store with boot := none, operation := .setBoot d o (s.time + designationLength s.choices) }
      choices := s.choices + 1 } : State).windowed o := by
  have hfree' : ¬ (s.enterWindow o).store.operation.busy = true := by simp [hfree, Operation.busy]
  simp only [setBootOrder, hb, if_neg hfree']
  rfl

end Begin

theorem orNone?_of_some {α : Type} {number? : Byte → Option α} {b : Byte} {x : α} (hb : b ≠ 0xFF) (h : number? b = some x) :
    orNone? number? b = some (some x) := by simp only [orNone?, if_neg hb, h, Option.map_some]

theorem ne_none_of_toNat_lt {b : Byte} (h : b.toNat < 4) : b ≠ 0xFF := by bv_omega

/-- Settles O56: the checks in their order, and a length within its bounds whatever the free value (log 8). -/
theorem storeOperationsBegin : Obligations.StoreOperationsBegin := by
  intro tag b s h save boot
  rw [exec_saveProfile h, exec_setBoot h]
  refine ⟨fun hb => ?saveRange, fun hb hne => ?bootRange, fun hbusy => ⟨fun hb => ?saveBusy, fun hb => ?bootBusy⟩,
    fun hfree => ⟨fun n hb => ?save, fun x hx => ?boot⟩⟩
  case saveRange => rw [saveOrder_range _ (slotNo?_of_le hb)]
  case bootRange => rw [setBootOrder_range _ (orNone?_of_none hne (slotNo?_of_le hb))]
  case saveBusy =>
    obtain ⟨n, hn⟩ := exists_slotNo? hb
    rw [saveOrder_busy _ hn (busy_of_ne_none hbusy)]
  case bootBusy =>
    obtain ⟨d, hd⟩ : ∃ d, orNone? slotNo? b = some d := by
      obtain hb | rfl := hb
      · obtain ⟨n, hn⟩ := exists_slotNo? hb
        exact ⟨some n, orNone?_of_some (ne_none_of_toNat_lt hb) hn⟩
      · exact ⟨none, rfl⟩
    rw [setBootOrder_busy _ hd (busy_of_ne_none hbusy)]
  case save =>
    have hlength := Nat.mod_lt (Config.saveTime s.choices) (show 15001 > 0 by decide)
    refine ⟨25000 + Config.saveTime s.choices % 15001, by omega, by omega, ?_⟩
    rw [saveOrder_begins _ (slotNo?_of_eq hb) hfree]
    rfl
  case boot =>
    have hlength := Nat.mod_lt (Config.designationTime s.choices) (show 4001 > 0 by decide)
    have hd : orNone? slotNo? b = some x := by
      obtain ⟨rfl, rfl⟩ | ⟨n, hb, rfl⟩ := hx
      · rfl
      · exact orNone?_of_some (ne_none_of_toNat_lt (hb ▸ n.isLt)) (slotNo?_of_eq hb)
    refine ⟨4000 + Config.designationTime s.choices % 4001, by omega, by omega, ?_⟩
    rw [setBootOrder_begins _ hd hfree]
    rfl

/-! ### Store operations as they complete -/

theorem reached_self (now : Time) : reached now now = true := by simp [reached]

/-- Settles O57: the generation is `freeGeneration_spec`'s. -/
theorem storeOperationsComplete : Obligations.StoreOperationsComplete := by
  intro s
  refine ⟨fun n p o hsave => ?saved, fun d o hboot => ?designated, fun hearly => ?notSaved, fun hearly => ?notDesignated⟩
  case saved =>
    obtain ⟨k, hg, hfree, hheld⟩ := freeGeneration_spec s.store s.store.generation
    refine ⟨k, nextGeneration^[k + 1] s.store.generation, rfl, fun m x q hm hx => ?_, fun i hi => ?_, ?_⟩
    · rw [← hx, holdsGeneration_iff.mpr ⟨m, q, hm⟩] at hfree
      exact absurd hfree nofun
    · obtain ⟨m, q, hm⟩ := holdsGeneration_iff.mp (hheld i hi)
      exact ⟨m, _, q, hm, rfl⟩
    · simp only [exec, execProfileSaveCompletion, hsave, reached_self, if_true, hg]
      rfl
  case designated =>
    simp only [exec, execSetBootCompletion, hboot, reached_self, if_true]
    rfl
  case notSaved =>
    cases hoperation : s.store.operation with
    | none | setBoot _ _ _ => simp only [exec, execProfileSaveCompletion, hoperation]
    | save n p o t =>
      obtain ⟨hne, hnear⟩ := hearly n p o t hoperation
      have hnot : ¬ reached s.time t = true := fun h => hne ((reached_iff hnear).mp h)
      simp only [exec, execProfileSaveCompletion, hoperation, if_neg hnot]
  case notDesignated =>
    cases hoperation : s.store.operation with
    | none | save _ _ _ _ => simp only [exec, execSetBootCompletion, hoperation]
    | setBoot d o t =>
      obtain ⟨hne, hnear⟩ := hearly d o t hoperation
      have hnot : ¬ reached s.time t = true := fun h => hne ((reached_iff hnear).mp h)
      simp only [exec, execSetBootCompletion, hoperation, if_neg hnot]

end Sys2Proof.Proofs

/-! ## Profiles put in force, resets and start-up (O58, O59, O60) -/

namespace Sys2Proof.Proofs

open Sys2Proof Sys2Proof.Machine Sys2Proof.Laws

/-! ### What a profile makes of the tables -/

theorem freshLine_eq (p : Pairing) : freshLine p =
    { pairing := p, state := if p.source = none then .unpaired else .ready, waiting := false, notice := none, guardTimer := none } := by
  unfold freshLine
  cases p.source <;> rfl

theorem loaded_eq (r : ClassRecord) (x : ClassSettings) (now : Time) (found : List SourceNo) : r.loaded x now found =
    { settings := x, state := if found = [] then .idle else .pending, late := false
      firstPending := if found = [] then none else some now
      deadlineTimer := if found ≠ [] ∧ x.critical = true then some (now + BitVec.ofNat 32 (x.deadline.toNat * 1000)) else none
      holdTimer := none, reported := found } := by
  by_cases hfound : found = []
  · rw [hfound, ClassRecord.loaded, settleFresh_nil]
    rfl
  · rw [ClassRecord.loaded, settleFresh_of_found hfound]
    simp only [hfound, if_false, ne_eq, not_false_eq_true, true_and]
    rfl

/-- The source records under the modes of a profile, of which only those are new (R9, R150). -/
def loadedSources (s : State) (p : Profile) : Vector SourceRecord 32 := Vector.ofFn fun i => (s.src i).cleared (p.steering[i]).mode

/-- The grant lines of a profile (R86, R150). -/
def loadedLines (p : Profile) : Vector LineRecord 8 := Vector.ofFn fun g => freshLine p.pairings[g]

/-- The classes judged afresh with the settings of a profile (R57, R58, R150). -/
def loadedClasses (s : State) (p : Profile) : Vector ClassRecord 16 :=
  Vector.ofFn fun c => (s.klass c).loaded p.settings[c] s.time (s.contributors c)

theorem loadTables_eq (s : State) (p : Profile) :
    s.loadTables p = { s with steering := p.steering, sources := loadedSources s p, lines := loadedLines p } := rfl

theorem loadClasses_eq (s : State) (p : Profile) : s.loadClasses p = { s with classes := loadedClasses s p } := rfl

theorem loadedSources_congr {s t : State} (h : t.sources = s.sources) (p : Profile) : loadedSources t p = loadedSources s p := by
  simp only [loadedSources, src_congr h]

/-- The records of the classes are all new: only the reading and the contributions tell. -/
theorem loadedClasses_congr {s t : State} (htime : t.time = s.time) (hsteering : t.steering = s.steering)
    (hsources : t.sources = s.sources) (p : Profile) : loadedClasses t p = loadedClasses s p := by
  simp only [loadedClasses, loaded_eq, htime, contributors_congr hsteering hsources]

theorem loadedSources_eq (s : State) (p : Profile) : loadedSources s p = Vector.ofFn fun i => { s.src i with
    latch := false, count := 0, forced := false, live := liveValue (p.steering[i]).mode (s.src i).qualified false } := rfl

theorem loadedLines_eq (p : Profile) : loadedLines p = Vector.ofFn fun g =>
    { pairing := p.pairings[g], state := if (p.pairings[g]).source = none then .unpaired else .ready, waiting := false
      notice := none, guardTimer := none } := by
  simp only [loadedLines, freshLine_eq]

theorem loadedClasses_eq (s : State) (p : Profile) : loadedClasses s p = Vector.ofFn fun c =>
    { settings := p.settings[c], state := if s.contributors c = [] then .idle else .pending, late := false
      firstPending := if s.contributors c = [] then none else some s.time
      deadlineTimer := if s.contributors c ≠ [] ∧ (p.settings[c]).critical = true then
          some (s.time + BitVec.ofNat 32 ((p.settings[c]).deadline.toNat * 1000))
        else none
      holdTimer := none, reported := s.contributors c } := by
  simp only [loadedClasses, loaded_eq]

/-! ### LOAD-PROFILE -/

theorem exec_loadProfile {s : State} (h : s.admits) (tag b : Byte) : exec (.loadProfile tag [b]) s
    = .next (loadOrder { kind := 0x14, tag := tag } b (s.enterWindow { kind := 0x14, tag := tag })) :=
  congrArg Host.Outcome.next (takeOrder_of_admits h ..)

theorem loadEffect_eq (p : Profile) (s : State) : loadEffect p s = { s with
    steering := p.steering, sources := loadedSources s p, lines := loadedLines p, classes := loadedClasses (s.loadTables p) p
    flight := { s.flight with reports := [] } } := by
  rw [loadEffect, loadClasses_eq]
  generalize loadedClasses (s.loadTables p) p = classes
  rw [loadTables_eq]

theorem loadEffect_enterWindow (p : Profile) (s : State) (o : Order) : loadEffect p (s.enterWindow o) = (loadEffect p s).enterWindow o := by
  have hsources : loadedSources (s.enterWindow o) p = loadedSources s p := loadedSources_congr rfl p
  have hclasses : loadedClasses ((s.enterWindow o).loadTables p) p = loadedClasses (s.loadTables p) p :=
    loadedClasses_congr (s := s.loadTables p) (t := (s.enterWindow o).loadTables p) rfl rfl hsources p
  rw [loadEffect_eq, loadEffect_eq, hclasses, hsources]
  generalize loadedClasses (s.loadTables p) p = classes
  rfl

theorem loadProfile_enterWindow (s : State) (o : Order) (n : SlotNo) (p : Profile) :
    (s.enterWindow o).loadProfile n p = (s.loadProfile n p).enterWindow o := by
  rw [loadProfile_eq_loadEffect, loadProfile_eq_loadEffect, takeAsks_enterWindow, loadEffect_enterWindow]
  rfl

section Load

variable {s : State} {b : Byte} {n : SlotNo} (o : Order)

theorem loadOrder_range (hb : slotNo? b = none) : loadOrder o b (s.enterWindow o) = (s.answered o .range [b]).transmit := by
  simp only [loadOrder, hb, enterWindow_reply]

variable (hb : slotNo? b = some n)
include hb

theorem loadOrder_busy (hbusy : s.store.operation.busy = true) :
    loadOrder o b (s.enterWindow o) = (s.answered o .busy s.store.operation.bytes).transmit := by
  simp only [loadOrder, hb]
  exact if_pos hbusy

variable (hfree : s.store.operation = .none)
include hfree

theorem loadOrder_empty (hslot : s.store.slot n = .empty) : loadOrder o b (s.enterWindow o) = (s.answered o .empty [b]).transmit := by
  have hfree' : ¬ s.store.operation.busy = true := by simp [hfree, Operation.busy]
  simp only [loadOrder, hb, enterWindow_frame, if_neg hfree', hslot, enterWindow_reply]

theorem loadOrder_invalid (hslot : s.store.slot n = .invalid) :
    loadOrder o b (s.enterWindow o) = (s.answered o .damaged [b]).transmit := by
  have hfree' : ¬ s.store.operation.busy = true := by simp [hfree, Operation.busy]
  simp only [loadOrder, hb, enterWindow_frame, if_neg hfree', hslot, enterWindow_reply]

variable {g : BitVec 32} {p : Profile} (hslot : s.store.slot n = .valid g p)
include hslot

theorem loadOrder_inUse (hentries : s.dispatcher.entries ≠ []) :
    loadOrder o b (s.enterWindow o) = (s.answered o .inUse [byteOf s.dispatcher.entries.length]).transmit := by
  have hfree' : ¬ s.store.operation.busy = true := by simp [hfree, Operation.busy]
  simp only [loadOrder, hb, enterWindow_frame, if_neg hfree', hslot, if_neg hentries, enterWindow_reply]

theorem loadOrder_ok (hentries : s.dispatcher.entries = []) :
    loadOrder o b (s.enterWindow o)
      = ((((s.loadProfile n p).answered o .ok (b :: be32 g)).transmit.dispatch).evalAttn).transmit := by
  have hfree' : ¬ s.store.operation.busy = true := by simp [hfree, Operation.busy]
  simp only [loadOrder, hb, enterWindow_frame, if_neg hfree', hslot, if_pos hentries, loadProfile_enterWindow, enterWindow_reply]
  rfl

end Load

/-- Settles O58: the checks in their order, then `loadEffect_eq`. -/
theorem loadProfilePutsTheSlotInForce : Obligations.LoadProfilePutsTheSlotInForce := by
  intro tag b s h row o
  have hrow : exec row s = _ := exec_loadProfile h tag b
  rw [hrow]
  refine ⟨fun hb => ?range, fun hb hbusy => ?busy, fun n hb hfree => ⟨fun hslot => ?empty, fun hslot => ?invalid,
    fun g p hslot hentries => ?inUse, fun g p hslot hentries => ?ok⟩⟩
  case range => rw [loadOrder_range _ (slotNo?_of_le hb)]
  case busy =>
    obtain ⟨n, hn⟩ := exists_slotNo? hb
    rw [loadOrder_busy _ hn (busy_of_ne_none hbusy)]
  all_goals have hn := slotNo?_of_eq hb
  case empty => rw [loadOrder_empty _ hn hfree hslot]
  case invalid => rw [loadOrder_invalid _ hn hfree hslot]
  case inUse => rw [loadOrder_inUse _ hn hfree hslot hentries]
  case ok =>
    intro w u v
    have hsources : loadedSources w p = u.sources := by
      rw [loadedSources_congr (t := w) (s := s) (by simp [w]), loadedSources_eq]
    have htime : (w.loadTables p).time = s.time := (takeAsks_frame s).1
    have hcontributors : (w.loadTables p).contributors = u.contributors :=
      funext fun c => contributors_congr (s := u) (t := w.loadTables p) rfl hsources c
    have hclasses : loadedClasses (w.loadTables p) p = v.classes := by
      rw [loadedClasses_eq, htime, hcontributors]
    have hloaded : s.loadProfile n p = v := by
      rw [loadProfile_eq_loadEffect, loadEffect_eq, hclasses, hsources, loadedLines_eq]
      have harrived : s.takeAsks.time = s.time := (takeAsks_frame s).1
      simp only [State.handCount, State.hand, harrived, v, u, w]
    rw [loadOrder_ok _ hn hfree hslot hentries, hloaded]

/-! ### Resets -/

theorem map_inReset (s : State) : s.sources.map SourceRecord.inReset = Vector.ofFn fun i =>
    { raw := (s.src i).raw, qualified := (s.src i).raw, timer := none, latch := false, count := 0, forced := false, live := false } := by
  ext i hi : 1
  simp [SourceRecord.inReset, resetSource, State.src]

theorem map_resetClass (s : State) : s.classes.map (fun r => resetClass r.settings) = Vector.ofFn fun c =>
    { settings := (s.klass c).settings, state := .idle, late := false, firstPending := none, deadlineTimer := none
      holdTimer := none, reported := [] } := by
  ext c hc : 1
  simp [resetClass, State.klass]

theorem map_lineInReset (s : State) : s.lines.map LineRecord.inReset = Vector.ofFn fun g =>
    { pairing := (s.line g).pairing, state := if (s.line g).pairing.source = none then .unpaired else .ready
      waiting := false, notice := none, guardTimer := none } := by
  ext g hg : 1
  rw [Vector.getElem_map, Vector.getElem_ofFn]
  exact freshLine_eq _

theorem journalAtReset_eq (s : State) (cause : ResetCause) : s.journalAtReset cause
    = if cause = .powerOn then { records := [], next := 1 } else s.flight.arrivals.foldl Journal.arrive s.journal := by
  cases cause <;> rfl

/-- Settles O59: the rows are `exec`'s arms, and a reset maps every table to its reset values. -/
theorem resetsBeginAndTheirCausesEnd : Obligations.ResetsBeginAndTheirCausesEnd := by
  intro s cause
  refine ⟨rfl, rfl, rfl, rfl, ?_⟩
  rw [State.beginReset, map_inReset, map_resetClass, map_lineInReset, journalAtReset_eq]
  generalize Vector.ofFn _ = sources
  generalize Vector.ofFn _ = classes
  generalize Vector.ofFn _ = lines
  rfl

/-! ### Start-up -/

/-- The state of start-up in which the classes are read: the profile's tables in force, RESET and BOOT in the journal (R160). -/
def bootTables (s : State) : State := (({ s.leaveReset with
  store := { s.leaveReset.store with bootOutcome := s.store.bootChoice.1 } } : State).loadTables s.store.bootChoice.2).journalStartUp

/-- The link as start-up leaves it: the rate of the straps, the receiver enabled, START begun (R115, R116, R162). -/
def bootLink (s : State) : Link := { s.leaveReset.link with
  rxEnabled := true, startPending := true
  rxWait := some { quiet := .enabled, ends := 0 + quietMicros s.leaveReset.link.rate .enabled 0 }
  tx := some
    { frame := { kind := 0x62, tag := 0, payload := startPayload s.power.cause s.store.bootChoice.1 (bootTables s).journal.next }
      origin := .start, ends := 0 + frameMicros s.leaveReset.link.rate 6 } }

theorem startUp_of_idle {s : State} (hidle : s.link.tx = none) : s.startUp = { (bootTables s).loadClasses s.store.bootChoice.2 with
    session := { s.session with attn := ((bootTables s).loadClasses s.store.bootChoice.2).attnCondition }
    link := bootLink s } := by
  rw [startUp_eq]
  change State.transmit { ((bootTables s).loadClasses s.store.bootChoice.2).evalAttn.enableReceiver with
    link := { ((bootTables s).loadClasses s.store.bootChoice.2).evalAttn.enableReceiver.link with startPending := true } } = _
  rw [transmit_start (by exact hidle) rfl, loadClasses_eq]
  generalize loadedClasses (bootTables s) s.store.bootChoice.2 = classes
  rfl

theorem bootTables_eq (s : State) : bootTables s = { s.leaveReset with
    steering := s.store.bootChoice.2.steering
    sources := loadedSources s.leaveReset s.store.bootChoice.2
    lines := loadedLines s.store.bootChoice.2
    store := { s.store with resetCause := s.power.cause, bootOutcome := s.store.bootChoice.1 }
    journal := (s.journal.arrive { time := 0, kind := .reset, count := some (s.power.cause.code.zeroExtend 32) }).arrive
      { time := 0, kind := .boot, count := some (s.store.bootChoice.1.code.zeroExtend 32) } } := by
  rw [bootTables, loadTables_eq]
  rfl

theorem leaveReset_src (s : State) (i : SourceNo) : s.leaveReset.src i = (s.src i).inReset := by
  simp [State.leaveReset, State.src]

/-- Out of reset a record is new but for its raw level (R3, R160). -/
theorem loadedSources_leaveReset (s : State) (p : Profile) : loadedSources s.leaveReset p = Vector.ofFn fun i =>
    { raw := (s.src i).raw, qualified := (s.src i).raw, timer := none, latch := false, count := 0, forced := false
      live := liveValue (p.steering[i]).mode (s.src i).raw false } := by
  simp only [loadedSources, leaveReset_src]
  rfl

theorem bootChoice_eq {t : Store} {outcome : BootOutcome} {p : Profile}
    (h : (t.boot = none ∧ outcome = .noneDesignated ∧ p = factoryProfile)
      ∨ (∃ n, t.boot = some n ∧ ((∃ g, t.slot n = .valid g p ∧ outcome = .slot n)
        ∨ (t.slot n = .empty ∧ outcome = .slotEmpty ∧ p = factoryProfile)
        ∨ (t.slot n = .invalid ∧ outcome = .slotInvalid ∧ p = factoryProfile)))) : t.bootChoice = (outcome, p) := by
  obtain ⟨hboot, rfl, rfl⟩ | ⟨n, hboot, ⟨g, hslot, rfl⟩ | ⟨hslot, rfl, rfl⟩ | ⟨hslot, rfl, rfl⟩⟩ := h
  · simp only [Store.bootChoice, hboot]
  all_goals simp only [Store.bootChoice, hboot, hslot]

theorem strapRate_eq (b a : Bool) : strapRate b a
    = if b then (if a then .b2000000 else .b921600) else (if a then .b460800 else .b115200) := by
  cases b <;> cases a <;> rfl

theorem strapRate_bitsPerSecond (b a : Bool) : (strapRate b a).bitsPerSecond
    = if b then (if a then 2000000 else 921600) else (if a then 460800 else 115200) := by
  cases b <;> cases a <;> rfl

theorem attnCondition_congr {s t : State} (hup : t.session.up = s.session.up) (hclasses : t.classes = s.classes) :
    t.attnCondition = s.attnCondition := by
  simp only [State.attnCondition, hup, klass_congr hclasses]

theorem execStartUp_of_not {s : State} (h : s.power.inReset = false ∨ s.power.supplyOut = true ∨ s.power.pinLow = true) :
    exec .startUp s = .next s := by
  refine if_neg ?_
  obtain h | h | h := h <;> simp [ResetUnit.storeRead, h]

theorem execStartUp_of_storeRead {s : State} (hreset : s.power.inReset = true) (hsupply : s.power.supplyOut = false)
    (hpin : s.power.pinLow = false) : exec .startUp s = .next s.startUp :=
  if_pos (by simp [ResetUnit.storeRead, hreset, hsupply, hpin])

/-- The link of start-up by the straps; the ten bit times and the first character last 39 half bit times (R115, R116, log 34). -/
theorem bootLink_eq (s : State) : bootLink s = { s.link with
    rate := if s.link.rateB then (if s.link.rateA then .b2000000 else .b921600) else (if s.link.rateA then .b460800 else .b115200)
    rxEnabled := true, startPending := true
    rxWait := some { quiet := .enabled, ends := BitVec.ofNat 32 ((19500000 + ((strapRate s.link.rateB s.link.rateA).bitsPerSecond - 1))
      / (strapRate s.link.rateB s.link.rateA).bitsPerSecond) }
    tx := some
      { frame := { kind := 0x62, tag := 0, payload := startPayload s.power.cause s.store.bootChoice.1 (bootTables s).journal.next }
        origin := .start, ends := frameMicros (strapRate s.link.rateB s.link.rateA) 6 } } := by
  rw [← strapRate_eq, bootLink, zero_add, zero_add]
  rfl

section Idle

variable {s : State} (hidle : s.link.tx = none)
include hidle

/-- Neither the classes as they are read nor the frame that follows changes what contributes to them. -/
theorem startUp_contributors (c : ClassNo) : s.startUp.contributors c = (bootTables s).contributors c :=
  contributors_congr (by rw [startUp_of_idle hidle, loadClasses_eq]) (by rw [startUp_of_idle hidle, loadClasses_eq]) c

theorem startUp_attnCondition : s.startUp.attnCondition = ((bootTables s).loadClasses s.store.bootChoice.2).attnCondition :=
  attnCondition_congr (by rw [startUp_of_idle hidle]; rfl) (by rw [startUp_of_idle hidle])

theorem bootClasses_eq : loadedClasses (bootTables s) s.store.bootChoice.2 = Vector.ofFn fun c =>
    { settings := s.store.bootChoice.2.settings[c], state := if s.startUp.contributors c = [] then .idle else .pending, late := false
      firstPending := if s.startUp.contributors c = [] then none else some 0
      deadlineTimer := if s.startUp.contributors c ≠ [] ∧ (s.store.bootChoice.2.settings[c]).critical = true then
          some (BitVec.ofNat 32 ((s.store.bootChoice.2.settings[c]).deadline.toNat * 1000))
        else none
      holdTimer := none, reported := s.startUp.contributors c } := by
  have htime : (bootTables s).time = 0 := rfl
  simp only [loadedClasses_eq, startUp_contributors hidle, htime, zero_add]

end Idle

/-- Settles O60: `startUp_of_idle`, its tables by `bootTables_eq`, its choice by `bootChoice_eq`. -/
theorem startUpFollowsR160AndR161 : Obligations.StartUpFollowsR160AndR161 := by
  intro s
  refine ⟨execStartUp_of_not, fun hreset hsupply hpin hidle outcome p hchoice => ?_⟩
  intro cause journal rate bits
  refine ⟨s.startUp, execStartUp_of_storeRead hreset hsupply hpin, ?_⟩
  refine (startUp_of_idle hidle).trans ?_
  rw [← startUp_attnCondition hidle, loadClasses_eq, bootClasses_eq hidle, bootLink_eq, strapRate_bitsPerSecond, strapRate_eq,
    bootTables_eq, loadedSources_leaveReset, loadedLines_eq, bootChoice_eq hchoice]
  rfl

end Sys2Proof.Proofs
